-- ==== Sys2Proof/Word.lean ====
section
/-! DEFINITION. The word types of the machine and their plainest readings (spec/00_scope.md rules R10, R11).
No bytes exist on this machine (spec/20_memory.md rule R56), so the smallest unit is the 40-bit word. -/

namespace Sys2Proof

/-- `Word40` of rule R11: every register but NIR, and every memory cell. Bit 0 is the least significant
bit, bit 39 the sign (rule R10). -/
abbrev Word := BitVec 40

/-- `Addr12` of rule R11: a word address, and the width of NIR (rule R21). -/
abbrev Addr := BitVec 12

/-- The 7-bit operation field of a half (rule R82). -/
abbrev OpField := BitVec 7

/-- One instruction half `h = op << 12 | addr`, 19 bits (rule R82). -/
abbrev HalfWord := BitVec 19

/-- A stored card: 80 bits (rules R54, R67). -/
abbrev Card := BitVec 80

/-- CC, "enum Left, Right" (rule R29): which half of a word. -/
inductive Half where
  | left
  | right
deriving DecidableEq, Repr

/-- `sign(v) = v[39]` (rule R11). -/
def sign (v : Word) : Bool := v.getLsbD 39

/-- `sval(v)` (rule R11): the two's-complement reading. -/
def sval (v : Word) : Int := v.toInt

end Sys2Proof
end

