-- ==== Sys2Proof/Config.lean ====
section
/-! DEFINITION. What an implementation fixes: the OPEN parameters of spec/00_scope.md rule R9, as plain data, and the
values the spec leaves open, as constants without a body (nothing in Lean can evaluate one of them). -/

namespace Sys2Proof

/-- The 62 mnemonics of rule R87, the names OPCODE_MAP gives codes to. -/
inductive Mnemonic where
  | a | s | ra | rs | rsv | pi | ni | lm
  | m | ma | d | ds
  | lrc | lrh | llh | clc | clh | src | srh
  | tnl | tnr | tpl | tpr | trl | trr | t1l | t1r | t2l | t2r | t3l | t3r
  | htl | htr | h1l | h1r | h2l | h2r | h3l | h3r
  | sal | sor | sar | sab | stq | snq | aqs | sqs | snv
  | sel | c | rd | wd | clear1 | clear2 | clear3 | clear4
  | writeLineBuffer | readLineBuffer | writeScr | readScr | matchScr | mismatchScr
deriving DecidableEq, Repr

/-- The mnemonics as a list, in the order of rule R87. -/
def allMnemonics : List Mnemonic :=
  [.a, .s, .ra, .rs, .rsv, .pi, .ni, .lm,
   .m, .ma, .d, .ds,
   .lrc, .lrh, .llh, .clc, .clh, .src, .srh,
   .tnl, .tnr, .tpl, .tpr, .trl, .trr, .t1l, .t1r, .t2l, .t2r, .t3l, .t3r,
   .htl, .htr, .h1l, .h1r, .h2l, .h2r, .h3l, .h3r,
   .sal, .sor, .sar, .sab, .stq, .snq, .aqs, .sqs, .snv,
   .sel, .c, .rd, .wd, .clear1, .clear2, .clear3, .clear4,
   .writeLineBuffer, .readLineBuffer, .writeScr, .readScr, .matchScr, .mismatchScr]

/-- The six typewriter opcodes (rule R310), as the refusal and the channel's messages name them. -/
inductive TypewriterOp where
  | writeLineBuffer | readLineBuffer | writeScr | readScr | matchScr | mismatchScr
deriving DecidableEq, Repr

/-- `OpClass` of rule R86: what OPCODE_MAP gives one 7-bit code. -/
inductive OpClass where
  /-- `Op(m)`: the code of a mnemonic. -/
  | op (name : Mnemonic)
  /-- `Unimplemented(name)`: "architecturally defined but not emulated" (rule R318). -/
  | unimplemented (name : String)
  /-- `Unknown`: a "numeric value outside the defined set" (rule R319). -/
  | unknown
deriving DecidableEq, Repr

/-- OPCODE_MAP (rule R86, decision D1): a total map from the 128 codes to their classes. -/
abbrev OpcodeMap := Vector OpClass (2 ^ 7)

/-- `OPCODE_MAP(op)`. -/
def OpcodeMap.classOf (map : OpcodeMap) (op : OpField) : OpClass := map[op.toNat]'op.isLt

/-- A drum, position and band (rules R53, R303): each a 3-bit field of the drum control word. -/
structure DrumUnit where
  drum : BitVec 3
  position : BitVec 3
  band : BitVec 3
deriving DecidableEq, Repr

/-- The OPEN parameters of rule R9: launch parameters (rule R392) that no step changes. -/
structure Parameters where
  /-- OPCODE_MAP (rule R86). -/
  opcodeMap : OpcodeMap
  /-- CARD_FEED_DEVICE (rule R301, decision D11): the device number of the primary card-reader feed. -/
  cardFeedDevice : BitVec 3
  /-- DRUM_ADMITS (rule R68, decision D14): the drum units that exist, as the list of them. -/
  drumAdmits : List DrumUnit
  /-- UNWRITTEN_READ_FAULTS (rule R55, decision D15): whether reading a never-written cell faults. -/
  unwrittenReadFaults : Bool
deriving DecidableEq, Repr

/-- The Bool inputs the host supplies: the six switches of rule R32, and whether the host calls `go()` while the
machine is halted (rules R206, R208). -/
inductive HostSwitch where
  | t1 | t2 | t3 | h1 | h2 | h3 | go
deriving DecidableEq, Repr

/-- How one host input is supplied (decision D18): a launch premise fixes it, or each read is a draw. -/
inductive HostInput where
  | fixed (b : Bool)
  | free
deriving DecidableEq, Repr

/-- The host inputs, one field each (rules R32, R206; log entry 8). -/
structure HostInputs where
  t1 : HostInput
  t2 : HostInput
  t3 : HostInput
  h1 : HostInput
  h2 : HostInput
  h3 : HostInput
  go : HostInput
deriving DecidableEq, Repr

/-- The default of DRUM_ADMITS (rule R68): `drum = 0 and position <= 2 and band <= 3`. -/
def defaultDrumAdmits : List DrumUnit :=
  [⟨0, 0, 0⟩, ⟨0, 0, 1⟩, ⟨0, 0, 2⟩, ⟨0, 0, 3⟩, ⟨0, 1, 0⟩, ⟨0, 1, 1⟩, ⟨0, 1, 2⟩, ⟨0, 1, 3⟩,
   ⟨0, 2, 0⟩, ⟨0, 2, 1⟩, ⟨0, 2, 2⟩, ⟨0, 2, 3⟩]

/-- FREE VALUE (log entry 3). OPCODE_MAP is OPEN (decision D1): the spec gives no numeric code. This is an arrangement of
the 128 codes, code `c` holding the mnemonic of row `opcodePerm c` where that is below 62; every lawful map
arises so, and nothing says which one it is. -/
opaque Config.opcodePerm : Equiv.Perm (Fin 128)

/-- FREE VALUE (log entry 3). The class of a code that holds no mnemonic: `some name` for `Unimplemented(name)`,
`none` for `Unknown` (decisions D1 and D30). -/
opaque Config.spareClass : Fin 128 → Option String

/-- FREE VALUE (log entry 4). CARD_FEED_DEVICE at launch (decision D11). -/
opaque Config.cardFeedDevice : BitVec 3

/-- FREE VALUE (log entry 5). UNWRITTEN_READ_FAULTS at launch (decision D15). -/
opaque Config.unwrittenReadFaults : Bool

/-- FREE VALUE (log entry 7). The draw for NR after an instruction that is silent on it (rule R24, decision D7). -/
opaque Config.nrDraw : Nat → Word

/-- FREE VALUE (log entry 8). The host-supplied value of a switch, or of a call of `go()`, at a read (rule R32,
decision D18). -/
opaque Config.inputDraw : HostSwitch → Nat → Bool

/-- FREE VALUE (log entry 6). What a drum word holds that neither a WD nor the launch's drum image has given
(rule R392 gives the image as a launch parameter and states no contents). -/
opaque Config.drumImage : DrumUnit → Addr → Word

end Sys2Proof
end

