-- ==== Sys2Proof/Syntax.lean ====
section
/-! DEFINITION. The instructions: one constructor per row of spec/opcode_table.json, in its order. The machine has
one format (spec/30_encoding.md rule R82) and one operand, the 12-bit address field (rule R84); each docstring
gives the rule that defines the instruction and how it reads that field. -/

namespace Sys2Proof

/-- An instruction half after decoding: the mnemonic and its address field. -/
inductive Instr where
  -- spec/41_alu.md
  /-- `A`, rule R104; address field: memory word address. -/
  | a (addr : Addr)
  /-- `S`, rule R105; address field: memory word address. -/
  | s (addr : Addr)
  /-- `RA`, rule R106; address field: memory word address. -/
  | ra (addr : Addr)
  /-- `RS`, rule R107; address field: memory word address. -/
  | rs (addr : Addr)
  /-- `RSV`, rule R108; address field: memory word address. -/
  | rsv (addr : Addr)
  /-- `PI`, rule R109; address field: memory word address. -/
  | pi (addr : Addr)
  /-- `NI`, rule R110; address field: memory word address. -/
  | ni (addr : Addr)
  /-- `LM`, rule R111; address field: memory word address. -/
  | lm (addr : Addr)
  -- spec/42_muldiv.md
  /-- `M`, rule R141; address field: memory word address. -/
  | m (addr : Addr)
  /-- `MA`, rule R142; address field: memory word address. -/
  | ma (addr : Addr)
  /-- `D`, rule R146; address field: memory word address. -/
  | d (addr : Addr)
  /-- `DS`, rule R147; address field: memory word address. -/
  | ds (addr : Addr)
  -- spec/43_shift.md
  /-- `LRC`, rule R175; address field: shift count n (decision D5). -/
  | lrc (addr : Addr)
  /-- `LRH`, rule R176; address field: shift count n (decision D5). -/
  | lrh (addr : Addr)
  /-- `LLH`, rule R177; address field: shift count n (decision D5). -/
  | llh (addr : Addr)
  /-- `CLC`, rule R178; address field: shift count n (decision D5). -/
  | clc (addr : Addr)
  /-- `CLH`, rule R179; address field: shift count n (decision D5). -/
  | clh (addr : Addr)
  /-- `SRC`, rule R180; address field: shift count n (decision D5). -/
  | src (addr : Addr)
  /-- `SRH`, rule R181; address field: shift count n (decision D5). -/
  | srh (addr : Addr)
  -- spec/45_transfer_halt.md, transfers
  /-- `TNL`, rule R231; address field: target word address; half from the mnemonic. -/
  | tnl (addr : Addr)
  /-- `TNR`, rule R232; address field: target word address; half from the mnemonic. -/
  | tnr (addr : Addr)
  /-- `TPL`, rule R233; address field: target word address; half from the mnemonic. -/
  | tpl (addr : Addr)
  /-- `TPR`, rule R234; address field: target word address; half from the mnemonic. -/
  | tpr (addr : Addr)
  /-- `TRL`, rule R235; address field: target word address; half from the mnemonic. -/
  | trl (addr : Addr)
  /-- `TRR`, rule R236; address field: target word address; half from the mnemonic. -/
  | trr (addr : Addr)
  /-- `T1L`, rule R237; address field: target word address; half from the mnemonic. -/
  | t1l (addr : Addr)
  /-- `T1R`, rule R238; address field: target word address; half from the mnemonic. -/
  | t1r (addr : Addr)
  /-- `T2L`, rule R239; address field: target word address; half from the mnemonic. -/
  | t2l (addr : Addr)
  /-- `T2R`, rule R240; address field: target word address; half from the mnemonic. -/
  | t2r (addr : Addr)
  /-- `T3L`, rule R241; address field: target word address; half from the mnemonic. -/
  | t3l (addr : Addr)
  /-- `T3R`, rule R242; address field: target word address; half from the mnemonic. -/
  | t3r (addr : Addr)
  -- spec/45_transfer_halt.md, halts
  /-- `HTL`, rule R243; address field: target word address; half from the mnemonic. -/
  | htl (addr : Addr)
  /-- `HTR`, rule R244; address field: target word address; half from the mnemonic. -/
  | htr (addr : Addr)
  /-- `H1L`, rule R245; address field: target word address; half from the mnemonic. -/
  | h1l (addr : Addr)
  /-- `H1R`, rule R246; address field: target word address; half from the mnemonic. -/
  | h1r (addr : Addr)
  /-- `H2L`, rule R247; address field: target word address; half from the mnemonic. -/
  | h2l (addr : Addr)
  /-- `H2R`, rule R248; address field: target word address; half from the mnemonic. -/
  | h2r (addr : Addr)
  /-- `H3L`, rule R249; address field: target word address; half from the mnemonic. -/
  | h3l (addr : Addr)
  /-- `H3R`, rule R250; address field: target word address; half from the mnemonic. -/
  | h3r (addr : Addr)
  -- spec/46_stores.md
  /-- `SAL`, rule R271; address field: memory word address. -/
  | sal (addr : Addr)
  /-- `SOR`, rule R272; address field: memory word address. -/
  | sor (addr : Addr)
  /-- `SAR`, rule R273; address field: memory word address. -/
  | sar (addr : Addr)
  /-- `SAB`, rule R274; address field: memory word address. -/
  | sab (addr : Addr)
  /-- `STQ`, rule R276; address field: memory word address. -/
  | stq (addr : Addr)
  /-- `SNQ`, rule R277; address field: memory word address. -/
  | snq (addr : Addr)
  /-- `AQS`, rule R278; address field: memory word address. -/
  | aqs (addr : Addr)
  /-- `SQS`, rule R279; address field: memory word address. -/
  | sqs (addr : Addr)
  /-- `SNV`, rule R280; address field: memory word address. -/
  | snv (addr : Addr)
  -- spec/47_io_misc.md, I/O, drum and clear
  /-- `SEL`, rule R300; address field: device selector, low octal digit (decision D10). -/
  | sel (addr : Addr)
  /-- `C`, rule R301; address field: memory word address. -/
  | c (addr : Addr)
  /-- `RD`, rule R304; address field: first memory address of the block. -/
  | rd (addr : Addr)
  /-- `WD`, rule R305; address field: first memory address of the block. -/
  | wd (addr : Addr)
  /-- `CLEAR1`, rule R306; address field: not read. -/
  | clear1 (addr : Addr)
  /-- `CLEAR2`, rule R307; address field: not read. -/
  | clear2 (addr : Addr)
  /-- `CLEAR3`, rule R308; address field: not read. -/
  | clear3 (addr : Addr)
  /-- `CLEAR4`, rule R309; address field: not read. -/
  | clear4 (addr : Addr)
  -- spec/47_io_misc.md, typewriter
  /-- `WRITE_LINE_BUFFER`, rule R311; address field: not known (opcode refused, 47_io_misc.md rule R310). -/
  | writeLineBuffer (addr : Addr)
  /-- `READ_LINE_BUFFER`, rule R312; address field: not known (opcode refused, 47_io_misc.md rule R310). -/
  | readLineBuffer (addr : Addr)
  /-- `WRITE_SCR`, rule R313; address field: not known (opcode refused, 47_io_misc.md rule R310). -/
  | writeScr (addr : Addr)
  /-- `READ_SCR`, rule R314; address field: not known (opcode refused, 47_io_misc.md rule R310). -/
  | readScr (addr : Addr)
  /-- `MATCH_SCR`, rule R315; address field: not known (opcode refused, 47_io_misc.md rule R310). -/
  | matchScr (addr : Addr)
  /-- `MISMATCH_SCR`, rule R316; address field: not known (opcode refused, 47_io_misc.md rule R310). -/
  | mismatchScr (addr : Addr)
deriving DecidableEq, Repr

/-- The mnemonic of an instruction. -/
def Instr.mnemonic : Instr → Mnemonic
  | .a _ => .a
  | .s _ => .s
  | .ra _ => .ra
  | .rs _ => .rs
  | .rsv _ => .rsv
  | .pi _ => .pi
  | .ni _ => .ni
  | .lm _ => .lm
  | .m _ => .m
  | .ma _ => .ma
  | .d _ => .d
  | .ds _ => .ds
  | .lrc _ => .lrc
  | .lrh _ => .lrh
  | .llh _ => .llh
  | .clc _ => .clc
  | .clh _ => .clh
  | .src _ => .src
  | .srh _ => .srh
  | .tnl _ => .tnl
  | .tnr _ => .tnr
  | .tpl _ => .tpl
  | .tpr _ => .tpr
  | .trl _ => .trl
  | .trr _ => .trr
  | .t1l _ => .t1l
  | .t1r _ => .t1r
  | .t2l _ => .t2l
  | .t2r _ => .t2r
  | .t3l _ => .t3l
  | .t3r _ => .t3r
  | .htl _ => .htl
  | .htr _ => .htr
  | .h1l _ => .h1l
  | .h1r _ => .h1r
  | .h2l _ => .h2l
  | .h2r _ => .h2r
  | .h3l _ => .h3l
  | .h3r _ => .h3r
  | .sal _ => .sal
  | .sor _ => .sor
  | .sar _ => .sar
  | .sab _ => .sab
  | .stq _ => .stq
  | .snq _ => .snq
  | .aqs _ => .aqs
  | .sqs _ => .sqs
  | .snv _ => .snv
  | .sel _ => .sel
  | .c _ => .c
  | .rd _ => .rd
  | .wd _ => .wd
  | .clear1 _ => .clear1
  | .clear2 _ => .clear2
  | .clear3 _ => .clear3
  | .clear4 _ => .clear4
  | .writeLineBuffer _ => .writeLineBuffer
  | .readLineBuffer _ => .readLineBuffer
  | .writeScr _ => .writeScr
  | .readScr _ => .readScr
  | .matchScr _ => .matchScr
  | .mismatchScr _ => .mismatchScr

/-- The address field of an instruction. -/
def Instr.addr : Instr → Addr
  | .a addr => addr
  | .s addr => addr
  | .ra addr => addr
  | .rs addr => addr
  | .rsv addr => addr
  | .pi addr => addr
  | .ni addr => addr
  | .lm addr => addr
  | .m addr => addr
  | .ma addr => addr
  | .d addr => addr
  | .ds addr => addr
  | .lrc addr => addr
  | .lrh addr => addr
  | .llh addr => addr
  | .clc addr => addr
  | .clh addr => addr
  | .src addr => addr
  | .srh addr => addr
  | .tnl addr => addr
  | .tnr addr => addr
  | .tpl addr => addr
  | .tpr addr => addr
  | .trl addr => addr
  | .trr addr => addr
  | .t1l addr => addr
  | .t1r addr => addr
  | .t2l addr => addr
  | .t2r addr => addr
  | .t3l addr => addr
  | .t3r addr => addr
  | .htl addr => addr
  | .htr addr => addr
  | .h1l addr => addr
  | .h1r addr => addr
  | .h2l addr => addr
  | .h2r addr => addr
  | .h3l addr => addr
  | .h3r addr => addr
  | .sal addr => addr
  | .sor addr => addr
  | .sar addr => addr
  | .sab addr => addr
  | .stq addr => addr
  | .snq addr => addr
  | .aqs addr => addr
  | .sqs addr => addr
  | .snv addr => addr
  | .sel addr => addr
  | .c addr => addr
  | .rd addr => addr
  | .wd addr => addr
  | .clear1 addr => addr
  | .clear2 addr => addr
  | .clear3 addr => addr
  | .clear4 addr => addr
  | .writeLineBuffer addr => addr
  | .readLineBuffer addr => addr
  | .writeScr addr => addr
  | .readScr addr => addr
  | .matchScr addr => addr
  | .mismatchScr addr => addr

end Sys2Proof
end

