-- ==== Sys2Proof/WellFormed.lean ====
section
/-! DEFINITION. Well-formedness. The address field of an instruction is 12 bits wide by its type, so the one thing that can be
wrong with an instruction is that the opcode map in force gives its mnemonic no code, or more than one
(spec/30_encoding.md rule R86: "OPCODE_MAP must give each of the 62 mnemonics exactly one code"). -/

namespace Sys2Proof

/-- The map gives this mnemonic exactly one code. -/
def OpcodeMap.gives (map : OpcodeMap) (name : Mnemonic) : Bool :=
  map.toList.count (.op name) == 1

/-- The map gives each of the 62 mnemonics exactly one code (rule R86). -/
def OpcodeMap.lawful (map : OpcodeMap) : Bool :=
  allMnemonics.all map.gives

/-- The instruction has an encoding under the map. -/
def Instr.wellFormed (map : OpcodeMap) (i : Instr) : Bool :=
  map.gives i.mnemonic

end Sys2Proof
end

