-- ==== Sys2Proof/Decode.lean ====
section
/-! DEFINITION. The decoder and the encoder (spec/30_encoding.md). The decoder is total: any word splits into two halves
(rule R81), and a half whose code stands for no instruction is rejected by name (rule R88). The encoder follows
rule R93. -/

namespace Sys2Proof

/-- What rule R81's `decode` answers for a word. -/
structure WordFields where
  leftOp : OpField
  leftAddress : Addr
  rightOp : OpField
  rightAddress : Addr
deriving DecidableEq, Repr

/-- `decode(w)` of rule R81, by the bits of rule R80: leftOp IR[39:33], leftAddress IR[32:21], rightOp IR[18:12],
rightAddress IR[11:0]. -/
def decodeWord (w : Word) : WordFields where
  leftOp := w.extractLsb' 33 7
  leftAddress := w.extractLsb' 21 12
  rightOp := w.extractLsb' 12 7
  rightAddress := w.extractLsb' 0 12

/-- `h = op << 12 | addr` (rule R82). -/
def halfOf (op : OpField) (addr : Addr) : HalfWord := op ++ addr

/-- The half CC selects (rule R202). -/
def selectHalf (w : Word) (cc : Half) : HalfWord :=
  match cc with
  | .left => halfOf (decodeWord w).leftOp (decodeWord w).leftAddress
  | .right => halfOf (decodeWord w).rightOp (decodeWord w).rightAddress

/-- The op field of a half (rule R82). -/
def halfOp (h : HalfWord) : OpField := h.extractLsb' 12 7

/-- The address field of a half (rule R82). -/
def halfAddr (h : HalfWord) : Addr := h.extractLsb' 0 12

/-- The instruction of a mnemonic with an address field. -/
def instrOf : Mnemonic → Addr → Instr
  | .a, addr => .a addr
  | .s, addr => .s addr
  | .ra, addr => .ra addr
  | .rs, addr => .rs addr
  | .rsv, addr => .rsv addr
  | .pi, addr => .pi addr
  | .ni, addr => .ni addr
  | .lm, addr => .lm addr
  | .m, addr => .m addr
  | .ma, addr => .ma addr
  | .d, addr => .d addr
  | .ds, addr => .ds addr
  | .lrc, addr => .lrc addr
  | .lrh, addr => .lrh addr
  | .llh, addr => .llh addr
  | .clc, addr => .clc addr
  | .clh, addr => .clh addr
  | .src, addr => .src addr
  | .srh, addr => .srh addr
  | .tnl, addr => .tnl addr
  | .tnr, addr => .tnr addr
  | .tpl, addr => .tpl addr
  | .tpr, addr => .tpr addr
  | .trl, addr => .trl addr
  | .trr, addr => .trr addr
  | .t1l, addr => .t1l addr
  | .t1r, addr => .t1r addr
  | .t2l, addr => .t2l addr
  | .t2r, addr => .t2r addr
  | .t3l, addr => .t3l addr
  | .t3r, addr => .t3r addr
  | .htl, addr => .htl addr
  | .htr, addr => .htr addr
  | .h1l, addr => .h1l addr
  | .h1r, addr => .h1r addr
  | .h2l, addr => .h2l addr
  | .h2r, addr => .h2r addr
  | .h3l, addr => .h3l addr
  | .h3r, addr => .h3r addr
  | .sal, addr => .sal addr
  | .sor, addr => .sor addr
  | .sar, addr => .sar addr
  | .sab, addr => .sab addr
  | .stq, addr => .stq addr
  | .snq, addr => .snq addr
  | .aqs, addr => .aqs addr
  | .sqs, addr => .sqs addr
  | .snv, addr => .snv addr
  | .sel, addr => .sel addr
  | .c, addr => .c addr
  | .rd, addr => .rd addr
  | .wd, addr => .wd addr
  | .clear1, addr => .clear1 addr
  | .clear2, addr => .clear2 addr
  | .clear3, addr => .clear3 addr
  | .clear4, addr => .clear4 addr
  | .writeLineBuffer, addr => .writeLineBuffer addr
  | .readLineBuffer, addr => .readLineBuffer addr
  | .writeScr, addr => .writeScr addr
  | .readScr, addr => .readScr addr
  | .matchScr, addr => .matchScr addr
  | .mismatchScr, addr => .mismatchScr addr

/-- What a half decodes to: an instruction, or one of the two illegal classes of rule R89, each with the op field that
the fault must name. -/
inductive Decoded where
  | instr (i : Instr)
  /-- "architecturally defined but not emulated" (rule R318). -/
  | unimplemented (op : OpField) (name : String)
  /-- "numeric value outside the defined set" (rule R319). -/
  | unknown (op : OpField)
deriving DecidableEq, Repr

/-- The lookup of rule R88: the op field through OPCODE_MAP, the address field as the operand. -/
def decodeHalf (map : OpcodeMap) (h : HalfWord) : Decoded :=
  match map.classOf (halfOp h) with
  | .op mn => .instr (instrOf mn (halfAddr h))
  | .unimplemented name => .unimplemented (halfOp h) name
  | .unknown => .unknown (halfOp h)

/-- `OPC(m)` (rule R17): the code the map gives the mnemonic (the first, should a map give several; 0 should it
give none: such a mnemonic is not well-formed). -/
def opc (map : OpcodeMap) (mn : Mnemonic) : OpField :=
  BitVec.ofNat 7 (map.toList.idxOf (.op mn) % 128)

/-- The half of an instruction: `OPC(m) << 12 | addr` (rules R82, R93). -/
def encodeHalf (map : OpcodeMap) (i : Instr) : HalfWord :=
  halfOf (opc map i.mnemonic) i.addr

/-- The word of rule R93 from its two halves, with the padding bits IR[20:19] given (rule R83: they never matter). -/
def joinHalves (l : HalfWord) (padding : BitVec 2) (r : HalfWord) : Word := l ++ padding ++ r

/-- `w = OPC(lop) << 33 | laddr << 21 | OPC(rop) << 12 | raddr`, "with the padding bits zero" (rule R93). -/
def encodeWord (map : OpcodeMap) (l r : Instr) : Word :=
  joinHalves (encodeHalf map l) 0 (encodeHalf map r)

/-- The word `w` with the half `cc` replaced, its other half and the padding kept. -/
def replaceHalf (w : Word) (cc : Half) (h : HalfWord) : Word :=
  match cc with
  | .left => joinHalves h (w.extractLsb' 19 2) (w.extractLsb' 0 19)
  | .right => joinHalves (w.extractLsb' 21 19) (w.extractLsb' 19 2) h

/-- The class the launch's opcode map gives a code: DESIGN CHOICE of form, no value chosen (log entry 3). -/
def launchClass (c : Fin 128) : OpClass :=
  match allMnemonics[(Config.opcodePerm c).val]? with
  | some mn => .op mn
  | none =>
    match Config.spareClass c with
    | some name => .unimplemented name
    | none => .unknown

/-- OPCODE_MAP of a launch that names none: OPEN (decision D1), so no code in it can be evaluated. -/
def launchOpcodeMap : OpcodeMap := Vector.ofFn launchClass

/-- The OPEN parameters of a launch that names none: free values, and DRUM_ADMITS at the spec's default (rule R68; log
entries 3, 4, 5 and 13). -/
def launchParameters : Parameters where
  opcodeMap := launchOpcodeMap
  cardFeedDevice := Config.cardFeedDevice
  drumAdmits := defaultDrumAdmits
  unwrittenReadFaults := Config.unwrittenReadFaults

/-- The host inputs of a launch that fixes none: every read is a draw (decision D18; log entry 8). -/
def launchInputs : HostInputs := ⟨.free, .free, .free, .free, .free, .free, .free⟩

/-- The instruction the decoder reads from a half given as a number, bit 0 the least significant bit of the half as
spec/opcode_table.json numbers it; a number wider than a half is no instruction. The map is the launch's, which is
OPEN. -/
def decodeTableWord (_nbits w : Nat) : Option Instr :=
  if w < 2 ^ 19 then
    match decodeHalf launchOpcodeMap (BitVec.ofNat 19 w) with
    | .instr i => some i
    | .unimplemented _ _ => none
    | .unknown _ => none
  else none

end Sys2Proof
end

