-- ==== Sys2Proof/Machine/Channel.lean ====
section
/-! DEFINITION. The messages of the MTC channel (spec/20_memory.md rule R70): the seven requests with their fields, and the response each
waits for. The spec gives no width for a line buffer's number, a station's number or a data item, so these are
unbounded (log entry 27). What a response does to A or memory is not in the source (N14), and nothing here says it. -/

namespace Sys2Proof.Machine

/-- `data[81]`: the 81 items of a line buffer (rule R70). -/
abbrev LineData := Vector Nat 81

/-- `update`, the "partial 15-field record" of rule R313: for each field of the Station Control Register but
stationNumber, by the names and widths of rule R317, a new value or none. -/
structure ScrUpdate where
  F : Option Bool
  EN : Option Bool
  DS : Option Bool
  RO : Option Bool
  TL : Option Bool
  CL : Option Bool
  SU : Option Bool
  /-- "a 4-bit ... (line-buffer assignment)". -/
  BN : Option (BitVec 4)
  ON : Option Bool
  OF : Option Bool
  TC : Option Bool
  RI : Option Bool
  RC : Option Bool
  EJ : Option Bool
  TO : Option Bool
deriving DecidableEq, Repr

/-- A request of the core to the MTC subsystem (rule R70). -/
inductive MtcRequest where
  | writeLineBuffer (lineBuffer : Nat) (data : LineData)
  | readLineBuffer (lineBuffer : Nat)
  | setControlRegister (stationNumber : Nat) (update : ScrUpdate)
  | getControlRegister (station : Nat)
  | matchControlRegister (mask pattern : Word)
  | mismatchControlRegister (mask pattern : Word)
  /-- A message that no named opcode sends (rule R316, N18). -/
  | bufferTransmission (lineBuffer : Nat)
deriving DecidableEq, Repr

/-- A response of the MTC subsystem, named for the request it answers (rule R70). Where the rule shows none, the response
carries nothing. -/
inductive MtcResponse where
  | writeLineBuffer
  | readLineBuffer (data : LineData)
  | setControlRegister
  | getControlRegister (value : Word)
  | matchControlRegister (value : Word)
  | mismatchControlRegister (value : Word)
  | bufferTransmission (accepted : Bool)
deriving DecidableEq, Repr

/-- Whether a response is a "matching response" (rule R70): the one of the request's own message. -/
def MtcRequest.answeredBy : MtcRequest → MtcResponse → Bool
  | .writeLineBuffer _ _, .writeLineBuffer => true
  | .readLineBuffer _, .readLineBuffer _ => true
  | .setControlRegister _ _, .setControlRegister => true
  | .getControlRegister _, .getControlRegister _ => true
  | .matchControlRegister _ _, .matchControlRegister _ => true
  | .mismatchControlRegister _ _, .mismatchControlRegister _ => true
  | .bufferTransmission _, .bufferTransmission _ => true
  | _, _ => false

/-- The typewriter opcode whose message this is (the corner cases of rules R311 to R316); `bufferTransmission` is
none's. -/
def MtcRequest.sender : MtcRequest → Option TypewriterOp
  | .writeLineBuffer _ _ => some .writeLineBuffer
  | .readLineBuffer _ => some .readLineBuffer
  | .setControlRegister _ _ => some .writeScr
  | .getControlRegister _ => some .readScr
  | .matchControlRegister _ _ => some .matchScr
  | .mismatchControlRegister _ _ => some .mismatchScr
  | .bufferTransmission _ => none

end Sys2Proof.Machine
end

