-- ==== Sys2Proof/Machine/State.lean ====
section
/-! DEFINITION. The machine's state as plain data, the reasons a step can stop, and the state after construction
(spec/10_state.md, spec/60_exceptions.md rule R350, spec/70_reset_and_hazards.md rules R390 to R392). -/

namespace Sys2Proof.Machine

/-- One listed cell of a store: a key and the word it holds. The smallest unit is the word (rules R50, R56; log
entry 1). -/
abbrev WordCell := Nat × Word

/-- A store of words: the cells that have been written, keys strictly rising. An unlisted key has not been written
(`W(a) = false` of rule R38), so no listed cell equals what an unlisted key reads as. -/
abbrev Store := List WordCell

/-- The keys rise strictly from `low` and stay below `bound`. -/
def Store.risesFrom (low bound : Nat) : Store → Bool
  | [] => true
  | (k, _) :: rest => low ≤ k && k < bound && Store.risesFrom (k + 1) bound rest

/-- The canonical form of a store whose keys are below `bound`. -/
def Store.wf (bound : Nat) (m : Store) : Bool := Store.risesFrom 0 bound m

/-- The main memory's canonical form: 4096 words (rule R50). -/
def Memory.wf (m : Store) : Bool := Store.wf 4096 m

/-- The drum store's canonical form: a key is drum, position and band (3 bits each) before a 12-bit address. -/
def Drum.wf (m : Store) : Bool := Store.wf (2 ^ 21) m

/-- The fault kinds of spec/60_exceptions.md section 2, each with its info. All are safe: the run ends where the
document says the error is fatal. -/
inductive FaultKind where
  /-- Code 1, raised at dispatch (rule R351). Safe. -/
  | unimplementedOpcode (op : OpField) (name : String)
  /-- Code 2, raised at dispatch (rule R352). Safe. -/
  | unknownOpcode (op : OpField)
  /-- Code 3, raised by C when DEVSEL is not the card feed (rule R353). Safe. -/
  | unimplementedDevice (dev : BitVec 3)
  /-- Code 4, raised by C when no card remains (rule R354). Safe. -/
  | cardsExhausted
  /-- Code 5, raised by a drum call of RD or WD outside DRUM_ADMITS (rule R355). Safe. -/
  | drumBounds (unit : DrumUnit)
  /-- Code 6, raised by the fetch and every MemRead of a never-written cell, when UNWRITTEN_READ_FAULTS holds (rule
  R356). Safe. -/
  | unwrittenRead (addr : Addr)
deriving DecidableEq, Repr

/-- The fault record of rule R350: the kind with its info, and NIR and CC of the faulting half. -/
structure FaultRecord where
  kind : FaultKind
  nir : Addr
  cc : Half
deriving DecidableEq, Repr

/-- Everything the spec gives the machine. -/
structure State where
  /-- The Accumulator (rule R22). -/
  a : Word
  /-- The Multiplier-Quotient register (rule R23). -/
  mq : Word
  /-- The Number Register (rule R24). -/
  nr : Word
  /-- The Instruction Register (rule R25). -/
  ir : Word
  /-- The Next-Instruction Register (rule R26). -/
  nir : Addr
  /-- The Overflow Toggle (rule R27). -/
  ov : Bool
  /-- The Current Command (rule R29). -/
  cc : Half
  /-- The halt flag (rule R30). -/
  halted : Bool
  /-- The I/O device selector (rule R31). -/
  devsel : BitVec 3
  /-- The main memory with its written flags (rules R38, R50). -/
  mem : Store
  /-- The drum store (rules R38, R53). -/
  drum : Store
  /-- The remaining card deck, next card first (rules R38, R54). -/
  deck : List Card
  /-- The fault record (rules R38, R350). -/
  fault : Option FaultRecord
  /-- The pending MTC request (rules R34, R70, R359): the message sent and not yet answered, "one outstanding at a
  time". -/
  mtcPending : Option MtcRequest
  /-- The switches and the host's `go()` calls (rules R32, R71, R72). -/
  inputs : HostInputs
  /-- The host's breakpoint set, ascending (rules R72, R209, R390). -/
  breakpoints : List Addr
  /-- The host's step/trace toggle (rules R72, R209). -/
  trace : Bool
  /-- The MODEL's own counter of draws taken, from which each free value is fresh (log entry 9). -/
  draws : Nat
  /-- The OPEN parameters (rules R9, R392). -/
  params : Parameters
deriving DecidableEq, Repr

/-- Why a step answers no next state because the machine has stopped. -/
inductive Fault where
  /-- A fault ended the run and its record stays set: no later step is defined (rule R358). Raised by every step from a
  state that holds a fault record. Safe: the source's host could call `go()` again, the model claims nothing. -/
  | ended (record : FaultRecord)
  /-- An MTC request is outstanding: "no step is enabled" (rule R359). Raised by every step from a state with a
  pending request; no step reaches one. Safe. -/
  | waitMtc (request : MtcRequest)
deriving DecidableEq, Repr

/-- Why a step is refused: the model has no meaning for it. -/
inductive Refusal where
  /-- An instruction not given its meaning yet; no arm of exec answers it. Safe. -/
  | notModelled (mnemonic : String)
  /-- A typewriter opcode: its operands and the application of its response are not in the source (rule R310, decision
  D17). Raised by the six meanings of Machine/Typewriter.lean. Safe: nothing can be proved of a run that reaches it. -/
  | typewriterOp (op : TypewriterOp)
deriving DecidableEq, Repr

/-- What a step, or an instruction, answers. -/
abbrev Outcome := Host.Outcome State Fault Refusal

/-- The state after CPU construction (rules R35, R390), with nothing loaded (log entry 2). -/
def State.reset : State where
  a := 0
  mq := 0
  nr := 0
  ir := 0
  nir := 0
  ov := false
  cc := .left
  halted := false
  devsel := 0
  mem := []
  drum := []
  deck := []
  fault := none
  mtcPending := none
  inputs := launchInputs
  breakpoints := []
  trace := false
  draws := 0
  params := launchParameters

end Sys2Proof.Machine
end

