-- ==== Sys2Proof/Machine/Flags.lean ====
section
/-! DEFINITION. The one flag computation of the machine: overflow (spec/41_alu.md rules R100, R101). -/

namespace Sys2Proof.Machine

/-- `hasOverflow(Apre, NR, result, sub)` of rule R100; for a subtraction the operand's sign is "complemented first",
bitwise (rule R101). -/
def hasOverflow (aPre nr result : Word) (sub : Bool) : Bool :=
  let sa := sign aPre
  let sb := if sub then !sign nr else sign nr
  sa == sb && sign result != sa

end Sys2Proof.Machine
end

