-- ==== Sys2Proof/Machine/Operands.lean ====
section
/-! DEFINITION. The readings of the address field (spec/30_encoding.md rules R84, R85), the word helpers of
spec/00_scope.md, the partial-store masks and the drum control word. -/

namespace Sys2Proof.Machine

/-- `comp(v) = (~v + 1) mod 2^40` (rule R12). -/
def comp (v : Word) : Word := ~~~v + 1

/-- The word with the one bit `b` at bit 0. -/
def bitWord (b : Bool) : Word := if b then 1 else 0

/-- The word with bit 39 written and the others kept. -/
def withSign (v : Word) (b : Bool) : Word := (v &&& 0x7FFFFFFFFF#40) ||| (bitWord b <<< 39)

/-- The address field as a shift count: "n = addr", 0..4095, with no modulus (rule R170). -/
def shiftCount (addr : Addr) : Nat := addr.toNat

/-- The address field as a device selector: "addr & 0o7" (rule R300). -/
def deviceSelector (addr : Addr) : BitVec 3 := (addr &&& 0o7#12).extractLsb' 0 3

/-- The masks of rule R270: SAL bits 32..20, SOR bits 19..12, SAR bits 11..0, SAB the union of SAL's and SAR's. -/
def maskSAL : Word := 0x01FFF00000#40
def maskSOR : Word := 0x00000FF000#40
def maskSAR : Word := 0x0000000FFF#40
def maskSAB : Word := 0x01FFF00FFF#40

/-- "clears the matching bits ... ORs in the new bits" (rule R270). -/
def mergeMasked (old new m : Word) : Word := (old &&& ~~~m) ||| (new &&& m)

/-- The high half of a card, bits 79..40 (rule R67). -/
def cardHigh (c : Card) : Word := c.extractLsb' 40 40

/-- The low half of a card, bits 39..0 (rule R67). -/
def cardLow (c : Card) : Word := c.extractLsb' 0 40

/-- What `drumControl(MQ)` recovers (rule R303): the unit, the first drum address, and the number of words. -/
structure DrumBlock where
  drumUnit : DrumUnit
  first : Addr
  count : Nat
deriving DecidableEq, Repr

/-- "drum = controlBits>>6 & 0x7", then position and band, from the 7-bit control bits (rule R303). -/
def drumUnitOf (cb : OpField) : DrumUnit where
  drum := ((cb >>> 6) &&& 0x7#7).extractLsb' 0 3
  position := ((cb >>> 3) &&& 0x7#7).extractLsb' 0 3
  band := (cb &&& 0x7#7).extractLsb' 0 3

/-- `drumControl(MQ)` (rule R303): MQ decoded as an instruction word, and the inclusive range first..last, empty when
`last < first`. -/
def drumControl (mq : Word) : DrumBlock :=
  let f := decodeWord mq
  { drumUnit := drumUnitOf f.rightOp
    first := f.leftAddress
    count := if f.leftAddress ≤ f.rightAddress
      then f.rightAddress.toNat - f.leftAddress.toNat + 1 else 0 }

/-- The drum store's key for an index tuple (rule R53). -/
def drumKey (u : DrumUnit) (addr : Addr) : Nat := (u.drum ++ u.position ++ u.band ++ addr).toNat

end Sys2Proof.Machine
end

