-- ==== Sys2Proof/Machine/Pair.lean ====
section
/-! DEFINITION. The one-bit steps of the A:MQ pair (spec/43_shift.md section 2) and the micro-step loops of multiply and
divide (spec/42_muldiv.md rules R140, R145). -/

namespace Sys2Proof.Machine

/-- The register pair A:MQ the shifts, multiply and divide work on. -/
structure Pair where
  a : Word
  mq : Word
deriving DecidableEq, Repr

/-- `repeat n times`. -/
def repeatStep {α : Type} (f : α → α) : Nat → α → α
  | 0, x => x
  | n + 1, x => repeatStep f n (f x)

/-- `(A >> 1) | (A[39] << 39)`: the right shift of A that copies its sign. -/
def shiftRightSigned (v : Word) : Word := (v >>> 1) ||| (bitWord (sign v) <<< 39)

/-- `prsStep()` (rule R171): power right; A's LSB enters MQ[38], MQ[39] is held. -/
def prsStep (p : Pair) : Pair where
  a := shiftRightSigned p.a
  mq := withSign ((withSign p.mq false >>> 1) ||| (bitWord (p.a.getLsbD 0) <<< 38)) (sign p.mq)

/-- `plsStep()` (rule R172): power left; MQ[38] feeds A's LSB, A[39] is discarded, MQ[39] is held. -/
def plsStep (p : Pair) : Pair where
  a := (p.a <<< 1) ||| bitWord (p.mq.getLsbD 38)
  mq := withSign (p.mq <<< 1) (sign p.mq)

/-- `clsStep()` (rule R173): circular left on the 80-bit ring. -/
def clsStep (p : Pair) : Pair where
  a := (p.a <<< 1) ||| bitWord (sign p.mq)
  mq := (p.mq <<< 1) ||| bitWord (sign p.a)

/-- `srsStep()` (rule R174): A-only logical right. -/
def srsStep (p : Pair) : Pair := { p with a := p.a >>> 1 }

/-- LRH's and LRC's overwrite after the loop: `MQ[39] <- A[39]` (rule R176, decision D6: also for n = 0). -/
def copySign (p : Pair) : Pair := { p with mq := withSign p.mq (sign p.a) }

/-- One iteration of the multiply loop (rule R140): the conditional add, then the arithmetic right shift of A:MQ, A's LSB
entering MQ[39]. -/
def mulStep (neg : Bool) (nr : Word) (p : Pair) : Pair :=
  let sum := if p.mq.getLsbD 0 then p.a + (if neg then comp nr else nr) else p.a
  { a := shiftRightSigned sum
    mq := (p.mq >>> 1) ||| (bitWord (sum.getLsbD 0) <<< 39) }

/-- The multiply routine after its memory read (rule R140): 39 iterations, the corrective addition, the last shift of
MQ. -/
def multiply (neg : Bool) (nr : Word) (p : Pair) : Pair :=
  let q := repeatStep (mulStep neg nr) 39 p
  { a := if q.mq.getLsbD 0 then q.a + (if neg then nr else comp nr) else q.a
    mq := q.mq >>> 1 }

/-- The divide prologue (rule R145): the quotient sign, the corrective addition, one power-left step. -/
def divStart (nr : Word) (p : Pair) : Pair :=
  plsStep
    (if sign nr ^^ sign p.a then { a := p.a + nr, mq := withSign p.mq true }
     else { a := p.a, mq := withSign p.mq false })

/-- One trial of the divide loop (rule R145): "go" iff the trial sign equals NR's sign. -/
def divStep (neg : Bool) (nr : Word) (p : Pair) : Pair :=
  let t := p.a + (if neg then nr else comp nr)
  let go := sign t == sign nr
  let q := plsStep (if go then { p with a := t } else p)
  if go then { q with mq := q.mq ||| 1 } else q

/-- The divide routine after its memory read (rule R145): prologue, 39 trials, the last right shift of A only. -/
def divide (neg : Bool) (nr : Word) (p : Pair) : Pair :=
  let q := repeatStep (divStep neg nr) 39 (divStart nr p)
  { q with a := shiftRightSigned q.a }

end Sys2Proof.Machine
end

