-- ==== Sys2Proof/Machine/Ops.lean ====
section
/-! DEFINITION. The named operations over the state: memory, drum, cards, host inputs, raising a fault, the advance, the
adder, and the templates that several instructions share. -/

namespace Sys2Proof.Machine

/-! ### Stores of words -/

/-- The word a key holds; `none` where it has not been written. -/
def storePeek : Store → Nat → Option Word
  | [], _ => none
  | (k, v) :: rest, key => if k = key then some v else storePeek rest key

/-- Write one word, keeping the keys rising. -/
def storePut (key : Nat) (v : Word) : Store → Store
  | [] => [(key, v)]
  | (k, w) :: rest =>
    if key < k then (key, v) :: (k, w) :: rest
    else if key = k then (key, v) :: rest
    else (k, w) :: storePut key v rest

/-! ### Collaborator ports -/

/-- `MemRead(addr, 1)` (rules R51, R55): `none` where it raises `UnwrittenRead`. -/
def memRead (s : State) (addr : Addr) : Option Word :=
  match storePeek s.mem addr.toNat with
  | some v => some v
  | none => if s.params.unwrittenReadFaults then none else some 0

/-- `MemWrite(addr, 1, v)` (rules R51, R55): the cell is written from then on. -/
def memWrite (addr : Addr) (v : Word) (s : State) : State :=
  { s with mem := storePut addr.toNat v s.mem }

/-- `DRUM_ADMITS(drum, position, band)` (rule R68). -/
def drumAdmitted (s : State) (u : DrumUnit) : Bool := s.params.drumAdmits.contains u

/-- The word a drum index holds: what was written there, else the launch's drum image (rules R64, R392). -/
def drumWord (s : State) (u : DrumUnit) (addr : Addr) : Word :=
  (storePeek s.drum (drumKey u addr)).getD (Config.drumImage u addr)

/-- `DrumGet` (rule R68): `none` where it raises `DrumBounds`. -/
def drumGet (s : State) (u : DrumUnit) (addr : Addr) : Option Word :=
  if drumAdmitted s u then some (drumWord s u addr) else none

/-- `DrumSet` (rule R68): `none` where it raises `DrumBounds`. -/
def drumSet (s : State) (u : DrumUnit) (addr : Addr) (v : Word) : Option State :=
  if drumAdmitted s u then some { s with drum := storePut (drumKey u addr) v s.drum } else none

/-- Where a host input comes from (rule R32). -/
def inputSource (sw : HostSwitch) (inputs : HostInputs) : HostInput :=
  match sw with
  | .t1 => inputs.t1
  | .t2 => inputs.t2
  | .t3 => inputs.t3
  | .h1 => inputs.h1
  | .h2 => inputs.h2
  | .h3 => inputs.h3
  | .go => inputs.go

/-- `Switch(sw)` at this moment (rule R32): the launch's fixed value, or a draw. -/
def switchValue (sw : HostSwitch) (s : State) : Bool :=
  match inputSource sw s.inputs with
  | .fixed b => b
  | .free => Config.inputDraw sw s.draws

/-! ### Draws -/

/-- A draw has been taken. -/
def countDraw (s : State) : State := { s with draws := s.draws + 1 }

/-- NR is UNSPECIFIED: "the model takes a fresh draw for it" (rule R24). -/
def drawNr (s : State) : State := countDraw { s with nr := Config.nrDraw s.draws }

/-! ### Ends of an instruction -/

/-- `advance(false)` (rule R203). -/
def advance (s : State) : State :=
  match s.cc with
  | .left => { s with cc := .right }
  | .right => { s with nir := s.nir + 1, cc := .left }

/-- A transfer's write of the program counter (rule R204). -/
def jumpTo (addr : Addr) (h : Half) (s : State) : State := { s with nir := addr, cc := h }

/-- The codes 1 to 6 of spec/60_exceptions.md section 2 (decision D20); no program can read them. -/
def faultCode : FaultKind → Nat
  | .unimplementedOpcode _ _ => 1
  | .unknownOpcode _ => 2
  | .unimplementedDevice _ => 3
  | .cardsExhausted => 4
  | .drumBounds _ => 5
  | .unwrittenRead _ => 6

/-- The fault record of a fault raised in this state (rule R350). -/
def recordFault (f : FaultKind) (s : State) : State := { s with fault := some ⟨f, s.nir, s.cc⟩ }

/-- `raise F(info)` (rules R350, R357): TAKING A FAULT. The record is written, NIR and CC still name the faulting half, and
every write made before stays. The machine has no handler and no return from a trap (rules R364, R365): the state
is terminal (rule R358), which Step.lean's step says. -/
def raiseFault (f : FaultKind) (s : State) : Outcome := .next (recordFault f s)

/-- `return F` of an instruction that writes NR, followed by the advance. -/
def complete (s : State) : Outcome := .next (advance s)

/-- `return F` of an instruction whose rule is silent on NR, followed by the advance. -/
def completeSilent (s : State) : Outcome := complete (drawNr s)

/-- Read the operand at `addr` and go on with it; an unwritten cell may fault (rules R55, R356). -/
def withOperand (addr : Addr) (s : State) (k : Word → Outcome) : Outcome :=
  match memRead s addr with
  | some x => k x
  | none => raiseFault (.unwrittenRead addr) s

/-! ### The adder -/

/-- `A <- 0`, and the other single-register writes that precede a read. -/
def clearA (s : State) : State := { s with a := 0 }

/-- `MQ <- 0`. -/
def clearMq (s : State) : State := { s with mq := 0 }

/-- `addCore(x, sub)` (rule R102). -/
def addCore (x : Word) (sub : Bool) (s : State) : State :=
  let result := s.a + (if sub then comp x else x)
  { s with nr := x, ov := s.ov || hasOverflow s.a x result sub, a := result }

/-- RSV's rule after its read (rule R108), shared with SNV (rule R275): minus the magnitude of `x`. -/
def loadMinusMagnitude (x : Word) (s : State) : State := addCore x (!sign x) (clearA s)

/-! ### Multiply, divide and shift over the state -/

/-- A and MQ as a pair. -/
def pairOf (s : State) : Pair := ⟨s.a, s.mq⟩

/-- Write A and MQ from a pair. -/
def setPair (p : Pair) (s : State) : State := { s with a := p.a, mq := p.mq }

/-- `mulCore` after its read (rule R140): `NR <- x`, then the steps. -/
def mulCore (neg : Bool) (x : Word) (s : State) : State :=
  setPair (multiply neg x (pairOf s)) { s with nr := x }

/-- `divCore` after its read (rule R145): `NR <- x`, then the steps. -/
def divCore (neg : Bool) (x : Word) (s : State) : State :=
  setPair (divide neg x (pairOf s)) { s with nr := x }

/-- A one-bit step of the pair, repeated as the address field says (rule R170). -/
def shiftBy (f : Pair → Pair) (addr : Addr) (s : State) : State :=
  setPair (repeatStep f (shiftCount addr) (pairOf s)) s

/-- LRH's and LRC's last write, `MQ[39] <- A[39]`. -/
def copySignOver (s : State) : State := setPair (copySign (pairOf s)) s

/-! ### Transfers and halts -/

/-- `transfer(cond, addr, h)` (rule R230), with the draw for NR. -/
def transferIf (cond : Bool) (addr : Addr) (h : Half) (s : State) : Outcome :=
  if cond then .next (jumpTo addr h (drawNr s)) else completeSilent s

/-- `haltIf(cond, addr, h)` (rule R230), with the draw for NR. -/
def haltIf (cond : Bool) (addr : Addr) (h : Half) (s : State) : Outcome :=
  if cond then .next (jumpTo addr h { drawNr s with halted := true }) else completeSilent s

/-! ### Stores -/

/-- `partialStore(addr, m)` (rule R270). -/
def partialStore (m : Word) (addr : Addr) (s : State) : Outcome :=
  withOperand addr s fun w => completeSilent (memWrite addr (mergeMasked w s.a m) s)

/-- The end of `mqStore` (rule R275): `MemWrite(addr, 1, A)`. -/
def storeA (addr : Addr) (s : State) : Outcome := complete (memWrite addr s.a s)

/-! ### Block transfers -/

/-- How a block transfer ends: all words moved, or a fault with the words before it moved (rule R357). -/
inductive BlockEnd where
  | moved (s : State)
  | raised (f : FaultKind) (s : State)
deriving DecidableEq, Repr

/-- RD's loop (rule R304): drum word `d` to memory word `m`, both counting up, the memory side modulo 4096. -/
def readBlock (u : DrumUnit) : Nat → Addr → Addr → State → BlockEnd
  | 0, _, _, s => .moved s
  | k + 1, d, m, s =>
    match drumGet s u d with
    | none => .raised (.drumBounds u) s
    | some v => readBlock u k (d + 1) (m + 1) (memWrite m v s)

/-- WD's loop (rule R305): for each word the memory read comes before the drum write. -/
def writeBlock (u : DrumUnit) : Nat → Addr → Addr → State → BlockEnd
  | 0, _, _, s => .moved s
  | k + 1, d, m, s =>
    match memRead s m with
    | none => .raised (.unwrittenRead m) s
    | some v =>
      match drumSet s u d v with
      | none => .raised (.drumBounds u) s
      | some s' => writeBlock u k (d + 1) (m + 1) s'

/-- The end of RD or WD. -/
def finishBlock : BlockEnd → Outcome
  | .moved s => completeSilent s
  | .raised f s => raiseFault f s

/-! ### The MTC channel -/

/-- Send a request (rule R70): it is outstanding until answered, and while one is outstanding no other is sent. No
instruction of this spec sends one (decision D17; log entry 12). -/
def sendRequest (request : MtcRequest) (s : State) : Option State :=
  match s.mtcPending with
  | none => some { s with mtcPending := some request }
  | some _ => none

/-- Whether this response ends the wait: "until exactly one matching response arrives" (rule R70). What it would then
do to A or memory is not in the source (N14). -/
def endsWait (response : MtcResponse) (s : State) : Bool :=
  match s.mtcPending with
  | none => false
  | some request => request.answeredBy response

/-! ### The host's operations -/

/-- What the halted machine does next (rules R206, R208): the host calls `go()`, which clears HALTED and nothing else,
or the machine stays as it is. -/
def awaitGo (s : State) : State := countDraw { s with halted := !switchValue .go s }

/-- `addBreakpoint(a)` (rules R72, R209), the set kept ascending. -/
def addBreakpoint (addr : Addr) (s : State) : State :=
  { s with breakpoints :=
      s.breakpoints.filter (· < addr) ++ [addr] ++ s.breakpoints.filter (addr < ·) }

/-- `removeBreakpoint(a)` (rules R72, R209). -/
def removeBreakpoint (addr : Addr) (s : State) : State :=
  { s with breakpoints := s.breakpoints.filter (· ≠ addr) }

/-- The step/trace toggle (rules R72, R209). -/
def toggleTrace (s : State) : State := { s with trace := !s.trace }

end Sys2Proof.Machine
end

