-- ==== Sys2Proof/Machine/Alu.lean ====
section
/-! DEFINITION. Add, subtract, load and logical instructions (spec/41_alu.md rules R104 to R111). -/

namespace Sys2Proof.Machine

/-- `A addr`, rule R104: add. -/
def execA (addr : Addr) (s : State) : Outcome :=
  withOperand addr s fun x => complete (addCore x false s)

/-- `S addr`, rule R105: subtract. -/
def execS (addr : Addr) (s : State) : Outcome :=
  withOperand addr s fun x => complete (addCore x true s)

/-- `RA addr`, rule R106: "A ← 0 then A ← mem[addr]"; an unwritten operand leaves A = 0 (rule R357). -/
def execRA (addr : Addr) (s : State) : Outcome :=
  withOperand addr (clearA s) fun x => completeSilent { clearA s with a := x }

/-- `RS addr`, rule R107: A is cleared, then the operand subtracted from it. -/
def execRS (addr : Addr) (s : State) : Outcome :=
  withOperand addr (clearA s) fun x => complete (addCore x true (clearA s))

/-- `RSV addr`, rule R108: minus the magnitude; here the read comes before A is cleared. -/
def execRSV (addr : Addr) (s : State) : Outcome :=
  withOperand addr s fun x => complete (loadMinusMagnitude x s)

/-- `PI addr`, rule R109: logical AND into A. -/
def execPI (addr : Addr) (s : State) : Outcome :=
  withOperand addr s fun x => completeSilent { s with a := s.a &&& x }

/-- `NI addr`, rule R110: logical AND-NOT into A. -/
def execNI (addr : Addr) (s : State) : Outcome :=
  withOperand addr s fun x => completeSilent { s with a := s.a &&& ~~~x }

/-- `LM addr`, rule R111: load MQ (decision D8). -/
def execLM (addr : Addr) (s : State) : Outcome :=
  withOperand addr s fun x => completeSilent { s with mq := x }

end Sys2Proof.Machine
end

