-- ==== Sys2Proof/Machine/Halt.lean ====
section
/-! DEFINITION. Halts (spec/45_transfer_halt.md rules R243 to R250). -/

namespace Sys2Proof.Machine

/-- `HTL addr`, rule R243: halt, resuming at the left half of addr. -/
def execHTL (addr : Addr) (s : State) : Outcome :=
  haltIf true addr .left s

/-- `HTR addr`, rule R244: halt, resuming at the right half of addr. -/
def execHTR (addr : Addr) (s : State) : Outcome :=
  haltIf true addr .right s

/-- `H1L addr`, rule R245: if switch H1 is set, halt, resuming at the left half of addr. -/
def execH1L (addr : Addr) (s : State) : Outcome :=
  haltIf (switchValue .h1 s) addr .left (countDraw s)

/-- `H1R addr`, rule R246: if switch H1 is set, halt, resuming at the right half of addr. -/
def execH1R (addr : Addr) (s : State) : Outcome :=
  haltIf (switchValue .h1 s) addr .right (countDraw s)

/-- `H2L addr`, rule R247: if switch H2 is set, halt, resuming at the left half of addr. -/
def execH2L (addr : Addr) (s : State) : Outcome :=
  haltIf (switchValue .h2 s) addr .left (countDraw s)

/-- `H2R addr`, rule R248: if switch H2 is set, halt, resuming at the right half of addr. -/
def execH2R (addr : Addr) (s : State) : Outcome :=
  haltIf (switchValue .h2 s) addr .right (countDraw s)

/-- `H3L addr`, rule R249: if switch H3 is set, halt, resuming at the left half of addr. -/
def execH3L (addr : Addr) (s : State) : Outcome :=
  haltIf (switchValue .h3 s) addr .left (countDraw s)

/-- `H3R addr`, rule R250: if switch H3 is set, halt, resuming at the right half of addr. -/
def execH3R (addr : Addr) (s : State) : Outcome :=
  haltIf (switchValue .h3 s) addr .right (countDraw s)

end Sys2Proof.Machine
end

