-- ==== Sys2Proof/Machine/IoDrum.lean ====
section
/-! DEFINITION. I/O, drum and clear instructions (spec/47_io_misc.md rules R300 to R309). -/

namespace Sys2Proof.Machine

/-- `SEL addr`, rule R300: the low octal digit selects the device. -/
def execSEL (addr : Addr) (s : State) : Outcome :=
  completeSilent { s with devsel := deviceSelector addr }

/-- `C addr`, rule R301: the device check, then the card, then the store of its high half, then A (decision D24). -/
def execC (addr : Addr) (s : State) : Outcome :=
  if s.devsel = s.params.cardFeedDevice then
    match s.deck with
    | [] => raiseFault .cardsExhausted s
    | card :: rest =>
      completeSilent { memWrite addr (cardHigh card) { s with deck := rest } with a := cardLow card }
  else raiseFault (.unimplementedDevice s.devsel) s

/-- `RD addr`, rule R304: drum block to memory. -/
def execRD (addr : Addr) (s : State) : Outcome :=
  finishBlock (readBlock (drumControl s.mq).drumUnit (drumControl s.mq).count (drumControl s.mq).first addr s)

/-- `WD addr`, rule R305: memory block to drum. -/
def execWD (addr : Addr) (s : State) : Outcome :=
  finishBlock (writeBlock (drumControl s.mq).drumUnit (drumControl s.mq).count (drumControl s.mq).first addr s)

/-- `CLEAR1 addr`, rule R306: zero A; the address field is not read, and NR is unchanged (decision D28). -/
def execCLEAR1 (_addr : Addr) (s : State) : Outcome :=
  complete (clearA s)

/-- `CLEAR2 addr`, rule R307: zero A; the address field is not read, and NR is unchanged (decision D28). -/
def execCLEAR2 (_addr : Addr) (s : State) : Outcome :=
  complete (clearA s)

/-- `CLEAR3 addr`, rule R308: zero A; the address field is not read, and NR is unchanged (decision D28). -/
def execCLEAR3 (_addr : Addr) (s : State) : Outcome :=
  complete (clearA s)

/-- `CLEAR4 addr`, rule R309: zero A; the address field is not read, and NR is unchanged (decision D28). -/
def execCLEAR4 (_addr : Addr) (s : State) : Outcome :=
  complete (clearA s)

end Sys2Proof.Machine
end

