-- ==== Sys2Proof/Machine/MulDiv.lean ====
section
/-! DEFINITION. Multiply and divide instructions (spec/42_muldiv.md rules R141, R142, R146, R147). All pass neg = false (rule R150). -/

namespace Sys2Proof.Machine

/-- `M addr`, rule R141: A is cleared before the read. -/
def execM (addr : Addr) (s : State) : Outcome :=
  withOperand addr (clearA s) fun x => complete (mulCore false x (clearA s))

/-- `MA addr`, rule R142: A keeps its value, the addend. -/
def execMA (addr : Addr) (s : State) : Outcome :=
  withOperand addr s fun x => complete (mulCore false x s)

/-- `D addr`, rule R146: divide A:MQ[38:0]. -/
def execD (addr : Addr) (s : State) : Outcome :=
  withOperand addr s fun x => complete (divCore false x s)

/-- `DS addr`, rule R147: MQ is cleared before the read. -/
def execDS (addr : Addr) (s : State) : Outcome :=
  withOperand addr (clearMq s) fun x => complete (divCore false x (clearMq s))

end Sys2Proof.Machine
end

