-- ==== Sys2Proof/Machine/Shift.lean ====
section
/-! DEFINITION. Shift instructions (spec/43_shift.md rules R175 to R181). -/

namespace Sys2Proof.Machine

/-- `LRC addr`, rule R175: power right, MQ cleared first. -/
def execLRC (addr : Addr) (s : State) : Outcome :=
  completeSilent (copySignOver (shiftBy prsStep addr (clearMq s)))

/-- `LRH addr`, rule R176: power right, MQ held. -/
def execLRH (addr : Addr) (s : State) : Outcome :=
  completeSilent (copySignOver (shiftBy prsStep addr s))

/-- `LLH addr`, rule R177: power left, MQ held. -/
def execLLH (addr : Addr) (s : State) : Outcome :=
  completeSilent (shiftBy plsStep addr s)

/-- `CLC addr`, rule R178: circular left, MQ cleared first. -/
def execCLC (addr : Addr) (s : State) : Outcome :=
  completeSilent (shiftBy clsStep addr (clearMq s))

/-- `CLH addr`, rule R179: circular left, MQ held. -/
def execCLH (addr : Addr) (s : State) : Outcome :=
  completeSilent (shiftBy clsStep addr s)

/-- `SRC addr`, rule R180: A-only logical right, MQ cleared first. -/
def execSRC (addr : Addr) (s : State) : Outcome :=
  completeSilent (shiftBy srsStep addr (clearMq s))

/-- `SRH addr`, rule R181: A-only logical right, MQ held. -/
def execSRH (addr : Addr) (s : State) : Outcome :=
  completeSilent (shiftBy srsStep addr s)

end Sys2Proof.Machine
end

