-- ==== Sys2Proof/Machine/Stores.lean ====
section
/-! DEFINITION. Store instructions (spec/46_stores.md rules R271 to R280). -/

namespace Sys2Proof.Machine

/-- `SAL addr`, rule R271: store A's left-address field. -/
def execSAL (addr : Addr) (s : State) : Outcome :=
  partialStore maskSAL addr s

/-- `SOR addr`, rule R272: store A's right-op field. -/
def execSOR (addr : Addr) (s : State) : Outcome :=
  partialStore maskSOR addr s

/-- `SAR addr`, rule R273: store A's right-address field. -/
def execSAR (addr : Addr) (s : State) : Outcome :=
  partialStore maskSAR addr s

/-- `SAB addr`, rule R274: store both address fields of A. -/
def execSAB (addr : Addr) (s : State) : Outcome :=
  partialStore maskSAB addr s

/-- `STQ addr`, rule R276: reset-add MQ, then store A. -/
def execSTQ (addr : Addr) (s : State) : Outcome :=
  storeA addr (addCore s.mq false (clearA s))

/-- `SNQ addr`, rule R277: reset-subtract MQ, then store A. -/
def execSNQ (addr : Addr) (s : State) : Outcome :=
  storeA addr (addCore s.mq true (clearA s))

/-- `AQS addr`, rule R278: add MQ to A, then store A. -/
def execAQS (addr : Addr) (s : State) : Outcome :=
  storeA addr (addCore s.mq false s)

/-- `SQS addr`, rule R279: subtract MQ from A, then store A. -/
def execSQS (addr : Addr) (s : State) : Outcome :=
  storeA addr (addCore s.mq true s)

/-- `SNV addr`, rule R280: minus the magnitude of MQ, then store A. -/
def execSNV (addr : Addr) (s : State) : Outcome :=
  storeA addr (loadMinusMagnitude s.mq s)

end Sys2Proof.Machine
end

