-- ==== Sys2Proof/Machine/Transfer.lean ====
section
/-! DEFINITION. Transfers (spec/45_transfer_halt.md rules R231 to R242). -/

namespace Sys2Proof.Machine

/-- `TNL addr`, rule R231: if A is negative, transfer to the left half of addr. -/
def execTNL (addr : Addr) (s : State) : Outcome :=
  transferIf (sign s.a) addr .left s

/-- `TNR addr`, rule R232: if A is negative, transfer to the right half of addr. -/
def execTNR (addr : Addr) (s : State) : Outcome :=
  transferIf (sign s.a) addr .right s

/-- `TPL addr`, rule R233: if A is non-negative, transfer to the left half of addr. -/
def execTPL (addr : Addr) (s : State) : Outcome :=
  transferIf (!sign s.a) addr .left s

/-- `TPR addr`, rule R234: if A is non-negative, transfer to the right half of addr. -/
def execTPR (addr : Addr) (s : State) : Outcome :=
  transferIf (!sign s.a) addr .right s

/-- `TRL addr`, rule R235: transfer to the left half of addr. -/
def execTRL (addr : Addr) (s : State) : Outcome :=
  transferIf true addr .left s

/-- `TRR addr`, rule R236: transfer to the right half of addr. -/
def execTRR (addr : Addr) (s : State) : Outcome :=
  transferIf true addr .right s

/-- `T1L addr`, rule R237: if switch T1 is set, transfer to the left half of addr. -/
def execT1L (addr : Addr) (s : State) : Outcome :=
  transferIf (switchValue .t1 s) addr .left (countDraw s)

/-- `T1R addr`, rule R238: if switch T1 is set, transfer to the right half of addr. -/
def execT1R (addr : Addr) (s : State) : Outcome :=
  transferIf (switchValue .t1 s) addr .right (countDraw s)

/-- `T2L addr`, rule R239: if switch T2 is set, transfer to the left half of addr. -/
def execT2L (addr : Addr) (s : State) : Outcome :=
  transferIf (switchValue .t2 s) addr .left (countDraw s)

/-- `T2R addr`, rule R240: if switch T2 is set, transfer to the right half of addr. -/
def execT2R (addr : Addr) (s : State) : Outcome :=
  transferIf (switchValue .t2 s) addr .right (countDraw s)

/-- `T3L addr`, rule R241: if switch T3 is set, transfer to the left half of addr. -/
def execT3L (addr : Addr) (s : State) : Outcome :=
  transferIf (switchValue .t3 s) addr .left (countDraw s)

/-- `T3R addr`, rule R242: if switch T3 is set, transfer to the right half of addr. -/
def execT3R (addr : Addr) (s : State) : Outcome :=
  transferIf (switchValue .t3 s) addr .right (countDraw s)

end Sys2Proof.Machine
end

