-- ==== Sys2Proof/Machine/Typewriter.lean ====
section
/-! DEFINITION. The six typewriter opcodes (spec/47_io_misc.md rules R310 to R316): refused by name, since neither their operands nor
the application of a response is in the source (decision D17). -/

namespace Sys2Proof.Machine

/-- `WRITE_LINE_BUFFER addr`, rule R311. -/
def execWriteLineBuffer (_addr : Addr) (_s : State) : Outcome :=
  .refused (.typewriterOp .writeLineBuffer)

/-- `READ_LINE_BUFFER addr`, rule R312. -/
def execReadLineBuffer (_addr : Addr) (_s : State) : Outcome :=
  .refused (.typewriterOp .readLineBuffer)

/-- `WRITE_SCR addr`, rule R313. -/
def execWriteScr (_addr : Addr) (_s : State) : Outcome :=
  .refused (.typewriterOp .writeScr)

/-- `READ_SCR addr`, rule R314. -/
def execReadScr (_addr : Addr) (_s : State) : Outcome :=
  .refused (.typewriterOp .readScr)

/-- `MATCH_SCR addr`, rule R315. -/
def execMatchScr (_addr : Addr) (_s : State) : Outcome :=
  .refused (.typewriterOp .matchScr)

/-- `MISMATCH_SCR addr`, rule R316. -/
def execMismatchScr (_addr : Addr) (_s : State) : Outcome :=
  .refused (.typewriterOp .mismatchScr)

end Sys2Proof.Machine
end

