-- ==== Sys2Proof/Machine/Dispatch.lean ====
section
/-! DEFINITION. The dispatch of spec/30_encoding.md rule R88: one arm per instruction. -/

namespace Sys2Proof.Machine

def exec (i : Instr) (s : State) : Host.Outcome State Fault Refusal :=
  match i with
  | .a addr => Sys2Proof.Machine.execA addr s
  | .s addr => Sys2Proof.Machine.execS addr s
  | .ra addr => Sys2Proof.Machine.execRA addr s
  | .rs addr => Sys2Proof.Machine.execRS addr s
  | .rsv addr => Sys2Proof.Machine.execRSV addr s
  | .pi addr => Sys2Proof.Machine.execPI addr s
  | .ni addr => Sys2Proof.Machine.execNI addr s
  | .lm addr => Sys2Proof.Machine.execLM addr s
  | .m addr => Sys2Proof.Machine.execM addr s
  | .ma addr => Sys2Proof.Machine.execMA addr s
  | .d addr => Sys2Proof.Machine.execD addr s
  | .ds addr => Sys2Proof.Machine.execDS addr s
  | .lrc addr => Sys2Proof.Machine.execLRC addr s
  | .lrh addr => Sys2Proof.Machine.execLRH addr s
  | .llh addr => Sys2Proof.Machine.execLLH addr s
  | .clc addr => Sys2Proof.Machine.execCLC addr s
  | .clh addr => Sys2Proof.Machine.execCLH addr s
  | .src addr => Sys2Proof.Machine.execSRC addr s
  | .srh addr => Sys2Proof.Machine.execSRH addr s
  | .tnl addr => Sys2Proof.Machine.execTNL addr s
  | .tnr addr => Sys2Proof.Machine.execTNR addr s
  | .tpl addr => Sys2Proof.Machine.execTPL addr s
  | .tpr addr => Sys2Proof.Machine.execTPR addr s
  | .trl addr => Sys2Proof.Machine.execTRL addr s
  | .trr addr => Sys2Proof.Machine.execTRR addr s
  | .t1l addr => Sys2Proof.Machine.execT1L addr s
  | .t1r addr => Sys2Proof.Machine.execT1R addr s
  | .t2l addr => Sys2Proof.Machine.execT2L addr s
  | .t2r addr => Sys2Proof.Machine.execT2R addr s
  | .t3l addr => Sys2Proof.Machine.execT3L addr s
  | .t3r addr => Sys2Proof.Machine.execT3R addr s
  | .htl addr => Sys2Proof.Machine.execHTL addr s
  | .htr addr => Sys2Proof.Machine.execHTR addr s
  | .h1l addr => Sys2Proof.Machine.execH1L addr s
  | .h1r addr => Sys2Proof.Machine.execH1R addr s
  | .h2l addr => Sys2Proof.Machine.execH2L addr s
  | .h2r addr => Sys2Proof.Machine.execH2R addr s
  | .h3l addr => Sys2Proof.Machine.execH3L addr s
  | .h3r addr => Sys2Proof.Machine.execH3R addr s
  | .sal addr => Sys2Proof.Machine.execSAL addr s
  | .sor addr => Sys2Proof.Machine.execSOR addr s
  | .sar addr => Sys2Proof.Machine.execSAR addr s
  | .sab addr => Sys2Proof.Machine.execSAB addr s
  | .stq addr => Sys2Proof.Machine.execSTQ addr s
  | .snq addr => Sys2Proof.Machine.execSNQ addr s
  | .aqs addr => Sys2Proof.Machine.execAQS addr s
  | .sqs addr => Sys2Proof.Machine.execSQS addr s
  | .snv addr => Sys2Proof.Machine.execSNV addr s
  | .sel addr => Sys2Proof.Machine.execSEL addr s
  | .c addr => Sys2Proof.Machine.execC addr s
  | .rd addr => Sys2Proof.Machine.execRD addr s
  | .wd addr => Sys2Proof.Machine.execWD addr s
  | .clear1 addr => Sys2Proof.Machine.execCLEAR1 addr s
  | .clear2 addr => Sys2Proof.Machine.execCLEAR2 addr s
  | .clear3 addr => Sys2Proof.Machine.execCLEAR3 addr s
  | .clear4 addr => Sys2Proof.Machine.execCLEAR4 addr s
  | .writeLineBuffer addr => Sys2Proof.Machine.execWriteLineBuffer addr s
  | .readLineBuffer addr => Sys2Proof.Machine.execReadLineBuffer addr s
  | .writeScr addr => Sys2Proof.Machine.execWriteScr addr s
  | .readScr addr => Sys2Proof.Machine.execReadScr addr s
  | .matchScr addr => Sys2Proof.Machine.execMatchScr addr s
  | .mismatchScr addr => Sys2Proof.Machine.execMismatchScr addr s

end Sys2Proof.Machine
end

