-- ==== Sys2Proof/Machine/Fetch.lean ====
section
/-! DEFINITION. The fetch and the selection of a half (spec/44_sequencer.md rules R201, R202), and the placing of an instruction where the
fetch finds it. -/

namespace Sys2Proof.Machine

/-- `IR <- w` (rule R25). -/
def loadIr (w : Word) (s : State) : State := { s with ir := w }

/-- What a fetched word selects: the half CC names, decoded by the map in force (rules R202, R88). -/
def decodeFetched (w : Word) (s : State) : Decoded :=
  decodeHalf s.params.opcodeMap (selectHalf w s.cc)

/-- The step of a machine that runs, given what an instruction does (rule R205): the fetch, the dispatch, and the faults of
each. `run` is exec. -/
def runHalf (run : Instr → State → Outcome) (s : State) : Outcome :=
  match memRead s s.nir with
  | none => raiseFault (.unwrittenRead s.nir) s
  | some w =>
    match decodeFetched w s with
    | .instr i => run i (loadIr w s)
    | .unimplemented op name => raiseFault (.unimplementedOpcode op name) (loadIr w s)
    | .unknown op => raiseFault (.unknownOpcode op) (loadIr w s)

/-- The state with a half placed where the next fetch selects it: the half CC of the word at NIR, the rest of that
word kept. The machine is made to run: not halted, no fault record, no pending request (log entry 2). -/
def placeHalf (h : HalfWord) (s : State) : State :=
  let old := (storePeek s.mem s.nir.toNat).getD 0
  memWrite s.nir (replaceHalf old s.cc h)
    { s with halted := false, fault := none, mtcPending := none }

end Sys2Proof.Machine
end

