-- ==== Sys2Proof/Machine/Step.lean ====
section
/-! DEFINITION. One step of the machine: one half, or what a halted, faulted or waiting machine does. -/

namespace Sys2Proof.Machine

/-- `step()` (rule R205) with the sequencer's other states (rule R207): FAULTED is terminal (rule R358), WAIT_MTC has no
enabled step (rule R359), HALTED waits for the host's `go()` (rule R208). -/
def step (s : State) : Host.Outcome State Fault Refusal :=
  match s.fault with
  | some r => .fault (.ended r)
  | none =>
    match s.mtcPending with
    | some request => .fault (.waitMtc request)
    | none => if s.halted then .next (awaitGo s) else runHalf exec s

/-- The state with an instruction half, given as a number as spec/opcode_table.json numbers its bits, placed where the
next step fetches it. -/
def State.withFetchWord (s : State) (_nbits w : Nat) : State :=
  placeHalf (BitVec.ofNat 19 w) s

end Sys2Proof.Machine
end

