-- ==== Sys2Proof/Machine/Go.lean ====
section
/-! DEFINITION. The run loop `go()` (spec/44_sequencer.md rule R206) and the ways it ends (spec/70_reset_and_hazards.md rule R398). -/

namespace Sys2Proof.Machine

/-- The ends of rule R398, and "still running" when the steps granted are used up. -/
inductive GoEnd where
  /-- Normally, at a halt (rule R208). -/
  | halted (s : State)
  /-- With a fault, its record set (rule R358). -/
  | faulted (record : FaultRecord) (s : State)
  /-- With a refusal (rule R360). -/
  | refused (r : Refusal)
  /-- Never: waiting on the MTC channel (rule R359). -/
  | waiting (request : MtcRequest) (s : State)
  /-- Not ended within the steps granted. -/
  | running (s : State)
deriving DecidableEq, Repr

/-- "while not HALTED: step()", at most `fuel` steps (rule R206); a fault leaves `go()` at once (rule R358). -/
def goLoop (fuel : Nat) (s : State) : GoEnd :=
  match s.fault, s.mtcPending with
  | some r, _ => .faulted r s
  | none, some request => .waiting request s
  | none, none =>
    if s.halted then .halted s
    else
      match fuel with
      | 0 => .running s
      | n + 1 =>
        match runHalf exec s with
        | .next s' => goLoop n s'
        | .refused r => .refused r
        | .fault (.ended r) => .faulted r s
        | .fault (.waitMtc request) => .waiting request s

/-- `go()`: "HALTED <- false", and nothing else, on entry (rule R206, decision D3). -/
def go (fuel : Nat) (s : State) : GoEnd := goLoop fuel { s with halted := false }

end Sys2Proof.Machine
end

