-- ==== Sys2Proof/Machine/Launch.lean ====
section
/-! DEFINITION. A launch (spec/70_reset_and_hazards.md rule R392): the construction state with what the host loads before the first
`go()`. No register is set (decision D25). -/

namespace Sys2Proof.Machine

/-- The launch parameters of rule R392. -/
structure Launch where
  /-- The memory image: the cells it gives, and so the written set (rule R55). -/
  image : List (Addr × Word)
  /-- The drum store image. -/
  drumImage : List (DrumUnit × Addr × Word)
  /-- The card deck. -/
  deck : List Card
  /-- The switch inputs and the host's `go()` calls. -/
  inputs : HostInputs
  /-- The OPEN parameters. -/
  params : Parameters
deriving DecidableEq, Repr

/-- The memory of an image. "A launch image counts as written for every cell it gives" (rule R55). -/
def loadImage (image : List (Addr × Word)) : Store :=
  image.foldl (fun m c => storePut c.1.toNat c.2 m) []

/-- The drum store of an image. -/
def loadDrum (image : List (DrumUnit × Addr × Word)) : Store :=
  image.foldl (fun m c => storePut (drumKey c.1 c.2.1) c.2.2 m) []

/-- The launch state (rule R392). -/
def launch (l : Launch) : State :=
  { State.reset with
    mem := loadImage l.image
    drum := loadDrum l.drumImage
    deck := l.deck
    inputs := l.inputs
    params := l.params }

end Sys2Proof.Machine
end

