-- ==== Sys2Proof/Safety.lean ====
section
/-! DEFINITION. What the statements speak of: the invariant of a state, the classes of instructions, multiply and divide over the integers, and outcomes compared up to a
field. -/

namespace Sys2Proof.Machine

/-- A fault record tells the truth about the state it stands in (rules R350 to R357): it names the half at NIR and CC,
HALTED is false, and the reason of its kind still holds. -/
def FaultRecord.agrees (r : FaultRecord) (s : State) : Bool :=
  r.nir == s.nir && r.cc == s.cc && !s.halted &&
    match r.kind with
    | .unimplementedOpcode op name => s.params.opcodeMap.classOf op == .unimplemented name
    | .unknownOpcode op => s.params.opcodeMap.classOf op == .unknown
    | .unimplementedDevice dev => dev == s.devsel && dev != s.params.cardFeedDevice
    | .cardsExhausted => s.deck.isEmpty && s.devsel == s.params.cardFeedDevice
    | .drumBounds u => !drumAdmitted s u
    | .unwrittenRead addr => s.params.unwrittenReadFaults && (storePeek s.mem addr.toNat).isNone

/-- The invariant of the machine: both stores canonical, no typewriter request pending (rule R359: "no rule of this
spec reaches it"), and a fault record, where there is one, true. -/
def State.inv (s : State) : Bool :=
  Memory.wf s.mem && Drum.wf s.drum && s.mtcPending.isNone &&
    match s.fault with
    | none => true
    | some r => r.agrees s

/-- The outcome with its next state changed. -/
def mapNext (f : State → State) : Outcome → Outcome
  | .next s => .next (f s)
  | .fault r => .fault r
  | .refused r => .refused r

/-- A step is safe: it answers a next state, and that state holds no fault record (rule R398: "no fault and no
refusal"). -/
def safeStep (s : State) : Bool :=
  match step s with
  | .next t => t.fault.isNone
  | .fault _ => false
  | .refused _ => false

/-- NR after an instruction that is silent on it: any value, one draw taken (rule R24). -/
def withAnyNr (v : Word) (s : State) : State := { s with nr := v, draws := s.draws + 1 }

/-- The instructions that write OV (rule R28). -/
def overflowWriters : List Mnemonic := [.a, .s, .rs, .rsv, .stq, .snq, .aqs, .sqs, .snv]

/-- The instructions that write A (the table of spec/10_state.md section 2). -/
def accumulatorWriters : List Mnemonic :=
  [.a, .s, .ra, .rs, .rsv, .pi, .ni, .m, .ma, .d, .ds, .lrc, .lrh, .llh, .clc, .clh, .src, .srh,
   .stq, .snq, .aqs, .sqs, .snv, .clear1, .clear2, .clear3, .clear4, .c]

/-- The instructions that write MQ (the same table). -/
def quotientWriters : List Mnemonic :=
  [.lm, .m, .ma, .d, .ds, .lrc, .lrh, .llh, .clc, .clh, .src]

/-- The instructions that write one memory word, at their address field (rule R57). -/
def wordStorers : List Mnemonic :=
  [.sal, .sor, .sar, .sab, .stq, .snq, .aqs, .sqs, .snv, .c]

/-- The transfers (rules R231 to R242). -/
def transfers : List Mnemonic :=
  [.tnl, .tnr, .tpl, .tpr, .trl, .trr, .t1l, .t1r, .t2l, .t2r, .t3l, .t3r]

/-- The transfers and halts whose last letter is R. -/
def rightTargets : List Mnemonic := [.tnr, .tpr, .trr, .t1r, .t2r, .t3r, .htr, .h1r, .h2r, .h3r]

/-- "the half named by the mnemonic's last letter" (rule R204), for a transfer or a halt. -/
def namedHalf (name : Mnemonic) : Half := if name ∈ rightTargets then .right else .left

/-- The halts (rules R243 to R250). -/
def halts : List Mnemonic := [.htl, .htr, .h1l, .h1r, .h2l, .h2r, .h3l, .h3r]

/-! ### The multiply and divide rounds over the integers

A second reading of rules R140 and R145, for every operand: A as a signed integer, MQ as a natural number below 2^40. -/

/-- "All additions are `mod 2^40`" (spec/42_muldiv.md): the signed value a 40-bit register keeps of an integer. -/
def wrapSigned (v : Int) : Int := Int.bmod v (2 ^ 40)

/-- One round of rule R140: add the multiplicand where MQ is odd, then halve A, its low bit entering MQ at the top. -/
def multiplyRound (x : Int) (p : Int × Int) : Int × Int :=
  let a := if p.2 % 2 = 1 then wrapSigned (p.1 + x) else p.1
  (a / 2, p.2 / 2 + a % 2 * 2 ^ 39)

/-- Rule R140: 39 rounds, the subtraction where the multiplier was negative, and MQ halved. -/
def multiplyExact (x : Int) (p : Int × Int) : Int × Int :=
  let q := repeatStep (multiplyRound x) 39 p
  (if q.2 % 2 = 1 then wrapSigned (q.1 - x) else q.1, q.2 / 2)

/-- `plsStep` (rule R172) of A and MQ's low 39 bits: double A, taking in the top one of those bits. -/
def doublePair (p : Int × Int) : Int × Int :=
  (wrapSigned (2 * p.1 + p.2 / 2 ^ 38), 2 * p.2 % 2 ^ 39)

/-- One trial of rule R145: subtract the divisor where the difference has the divisor's sign, double, and note it. -/
def divideRound (x : Int) (p : Int × Int) : Int × Int :=
  let t := wrapSigned (p.1 - x)
  if t < 0 ↔ x < 0 then
    let q := doublePair (t, p.2)
    (q.1, q.2 + 1)
  else doublePair p

/-- Rule R145: the quotient's sign is the XOR of the signs, and then the divisor is added; one doubling, 39 trials, and A
halved. -/
def divideExact (x : Int) (p : Int × Int) : Int × Int :=
  let low := p.2 % 2 ^ 39
  if x < 0 ↔ p.1 < 0 then
    let q := repeatStep (divideRound x) 39 (doublePair (p.1, low))
    (q.1 / 2, q.2)
  else
    let q := repeatStep (divideRound x) 39 (doublePair (wrapSigned (p.1 + x), low))
    (q.1 / 2, q.2 + 2 ^ 39)

/-- NR, A and MQ written, A and MQ from integers. -/
def withProduct (x : Word) (p : Int × Int) (s : State) : State :=
  { s with nr := x, a := BitVec.ofInt 40 p.1, mq := BitVec.ofInt 40 p.2 }

/-- A row of the spec's corner values: A, MQ and NR before, A and MQ after. -/
structure CornerRow where
  a0 : Word
  mq0 : Word
  nr : Word
  a : Word
  mq : Word
deriving DecidableEq, Repr

/-- The corner values of rule R141 outside the multiply law's domain, A taken as 0. The second is the product 2^78 of
rule R143, taken modulo 2^79. -/
def multiplyCorners : List CornerRow :=
  [⟨0, 0x7fffffffff, 0x7fffffffff, 0o02525252525252, 1⟩,
   ⟨0, 0x8000000000, 0x8000000000, 0x8000000000, 0⟩]

/-- The corner values of rule R146 outside the divide law's domain: divisor 0, and a quotient too large. -/
def divideCorners : List CornerRow :=
  [⟨0, 5, 0, 5, 0x7fffffffff⟩,
   ⟨0, 0, 0, 0, 0x7fffffffff⟩,
   ⟨1, 0, 1, 1, 0x7fffffffff⟩,
   ⟨0x8000000000, 0, 1, 1, 0xffffffffff⟩]

end Sys2Proof.Machine
end

