-- ==== Sys2Proof/Certificates/Slice0/Obligations.lean ====
section
/-! DEFINITION. The statements for the provers, from the numbered rules of spec/. A value of NR that the spec leaves UNSPECIFIED (rule
R24) stands as "some v"; one draw is counted with it (log entries 7 and 9). -/

open Sys2Proof Sys2Proof.Machine

/-! ### Construction and launch -/

/-- Rule R35: the construction values. "false" and "Left" are the spec's decision D2. -/
def Obligations.ConstructionValues : Prop :=
  State.reset.a = 0 ∧ State.reset.mq = 0 ∧ State.reset.nr = 0 ∧ State.reset.ir = 0 ∧
    State.reset.nir = 0 ∧ State.reset.ov = false ∧ State.reset.halted = false ∧
    State.reset.devsel = 0 ∧ State.reset.cc = .left ∧ State.reset.fault = none

/-- Rule R391: the first step of a launch whose image gives word 0 runs that word's left half. -/
def Obligations.FirstStepRunsWordZeroLeft : Prop :=
  ∀ (l : Launch) (w : Word) (i : Instr),
    storePeek (launch l).mem 0 = some w →
    decodeHalf l.params.opcodeMap (halfOf (decodeWord w).leftOp (decodeWord w).leftAddress) =
      .instr i →
    step (launch l) = exec i { launch l with ir := w }

/-! ### Encoding -/

/-- Rule R81: `leftOp = w >> 33`, `leftAddress = (w >> 21) & 0o7777`, `rightOp = (w >> 12) & 0o177`,
`rightAddress = w & 0o7777`. -/
def Obligations.DecodedFieldsAreTheShiftsAndMasks : Prop :=
  ∀ w : Word,
    (decodeWord w).leftOp.toNat = w.toNat >>> 33 ∧
    (decodeWord w).leftAddress.toNat = (w.toNat >>> 21) &&& 0o7777 ∧
    (decodeWord w).rightOp.toNat = (w.toNat >>> 12) &&& 0o177 ∧
    (decodeWord w).rightAddress.toNat = w.toNat &&& 0o7777

/-- Rule R83: words that differ only in the padding bits IR[20:19] decode to the same fields. -/
def Obligations.PaddingBitsAreNotRead : Prop :=
  ∀ w w' : Word, w &&& ~~~0x180000#40 = w' &&& ~~~0x180000#40 → decodeWord w = decodeWord w'

/-- Rules R82, R86, R93: an instruction with exactly one code, encoded in either half of a word beside any other half
and any padding, decodes to itself, with its address field at every value. -/
def Obligations.DecodeInvertsEncode : Prop :=
  ∀ (map : OpcodeMap) (i : Instr) (other : HalfWord) (padding : BitVec 2),
    i.wellFormed map = true →
    decodeHalf map (selectHalf (joinHalves (encodeHalf map i) padding other) .left) = .instr i ∧
    decodeHalf map (selectHalf (joinHalves other padding (encodeHalf map i)) .right) = .instr i

/-- Rule R86: under a map that gives each mnemonic one code, a half has at most one reading: what decodes to an
instruction is that instruction's encoding. -/
def Obligations.EncodeInvertsDecode : Prop :=
  ∀ (map : OpcodeMap) (h : HalfWord) (i : Instr),
    map.lawful = true → decodeHalf map h = .instr i → encodeHalf map i = h

/-- Rule R86's condition holds of the launch's opcode map, whichever map it is (log entry 3). -/
def Obligations.LaunchMapGivesEachMnemonicOneCode : Prop :=
  launchOpcodeMap.lawful = true

/-- Rule R80 and R88 on halves written out bit by bit, op before address, for any map with these codes. -/
def Obligations.WrittenWordsDecode : Prop :=
  ∀ map : OpcodeMap,
    (map.classOf 0b0000101#7 = .op .ra →
      decodeHalf map 0b0000101_000000000001#19 = .instr (.ra 1) ∧
      decodeHalf map (selectHalf 0b0000101_100000000001_11_1111111_111111111111#40 .left) =
        .instr (.ra 2049)) ∧
    (map.classOf 0b0111111#7 = .op .htl →
      decodeHalf map (selectHalf 0b1111111_111111111111_01_0111111_000000001010#40 .right) =
        .instr (.htl 10)) ∧
    (map.classOf 0b0000000#7 = .unknown →
      decodeHalf map 0b0000000_000000001010#19 = .unknown 0)

/-! ### The sequencer -/

/-- Rules R201, R202, R205: a running machine whose fetched word decodes, in the half CC selects, to an instruction runs that
instruction with IR loaded; the advance is part of the instruction's own answer. -/
def Obligations.StepRunsTheDecodedHalf : Prop :=
  ∀ (s : State) (w : Word) (i : Instr),
    s.fault = none → s.mtcPending = none → s.halted = false →
    memRead s s.nir = some w →
    decodeHalf s.params.opcodeMap
      (match s.cc with
        | .left => halfOf (decodeWord w).leftOp (decodeWord w).leftAddress
        | .right => halfOf (decodeWord w).rightOp (decodeWord w).rightAddress) = .instr i →
    step s = exec i { s with ir := w }

/-- Rules R55, R356, R357: the fetch of a never-written cell, where such reads fault, records UnwrittenRead(NIR) and
changes nothing else; where they do not fault, it fetches 0. -/
def Obligations.FetchOfAnUnwrittenCell : Prop :=
  ∀ s : State,
    s.fault = none → s.mtcPending = none → s.halted = false →
    storePeek s.mem s.nir.toNat = none →
    (s.params.unwrittenReadFaults = true →
      step s = .next { s with fault := some ⟨.unwrittenRead s.nir, s.nir, s.cc⟩ }) ∧
    (s.params.unwrittenReadFaults = false → memRead s s.nir = some 0)

/-- Rules R318, R319, R350 to R352: a code that is unimplemented, or unknown, records its fault at dispatch, and of the
registers only IR has changed. That the faulting step answers a next state is log entry 10. -/
def Obligations.IllegalCodesFaultAtDispatch : Prop :=
  ∀ (s : State) (w : Word) (op : OpField) (name : String),
    s.fault = none → s.mtcPending = none → s.halted = false →
    memRead s s.nir = some w →
    op = (match s.cc with | .left => (decodeWord w).leftOp | .right => (decodeWord w).rightOp) →
    (s.params.opcodeMap.classOf op = .unimplemented name →
      step s =
        .next { s with ir := w, fault := some ⟨.unimplementedOpcode op name, s.nir, s.cc⟩ }) ∧
    (s.params.opcodeMap.classOf op = .unknown →
      step s = .next { s with ir := w, fault := some ⟨.unknownOpcode op, s.nir, s.cc⟩ })

/-- Rule R358: once a fault record is set, no later step is defined. -/
def Obligations.FaultedStateIsTerminal : Prop :=
  ∀ (s : State) (r : FaultRecord), s.fault = some r → step s = .fault (.ended r)

/-- Rules R70, R359: while a request is outstanding, whichever of the seven it is, no step is enabled and no other request
is sent; a request sent on a free channel is outstanding with all its fields, and only a response of its own message
ends the wait. The form of a request is log entry 27, that no instruction sends one decision D17 (log entry 12). -/
def Obligations.PendingRequestIsStuck : Prop :=
  ∀ (s : State) (request : MtcRequest), s.fault = none →
    (s.mtcPending = some request →
      step s = .fault (.waitMtc request) ∧ ∀ other, sendRequest other s = none) ∧
    (s.mtcPending = none →
      sendRequest request s = some { s with mtcPending := some request } ∧
      step { s with mtcPending := some request } = .fault (.waitMtc request) ∧
      ∀ response, endsWait response { s with mtcPending := some request } =
        request.answeredBy response)

/-- Rules R206, R208: a halted machine keeps every register, OV and memory; the host's `go()` clears HALTED and nothing
else. Whether the host calls it at this step is the input `go` (log entry 11). -/
def Obligations.HaltedMachineWaitsForGo : Prop :=
  ∀ s : State,
    s.fault = none → s.mtcPending = none → s.halted = true →
    (switchValue .go s = false → step s = .next { s with draws := s.draws + 1 }) ∧
    (switchValue .go s = true → step s = .next { s with halted := false, draws := s.draws + 1 })

/-- Rule R210: over a run of advances from a left half at `n`, the k-th half stands at word `n + k/2` modulo 4096, left
for an even k and right for an odd one, and nothing else moves. -/
def Obligations.AdvancesRunThroughTheHalves : Prop :=
  ∀ (k : Nat) (s : State), s.cc = .left →
    repeatStep advance k s =
      { s with
        nir := s.nir + BitVec.ofNat 12 (k / 2)
        cc := if k % 2 = 0 then .left else .right }

/-- Rules R204, R211: a half that runs has one of four outcomes: the advance, a taken transfer with HALTED unchanged, an
acting halt, or a fault at the half itself. A transfer and a halt write NIR with the address field and CC with the half
the mnemonic's last letter names. That the fault is a next state with NIR, CC and HALTED kept is decision D16 (log
entry 10). -/
def Obligations.AnInstructionHasOneOfFourOutcomes : Prop :=
  ∀ (i : Instr) (s t : State), s.fault = none → s.halted = false → exec i s = .next t →
    (t.fault = none ∧ t.halted = false ∧ t.nir = (advance s).nir ∧ t.cc = (advance s).cc) ∨
    (t.fault = none ∧ t.halted = false ∧ t.nir = i.addr ∧ t.cc = namedHalf i.mnemonic ∧
      i.mnemonic ∈ transfers) ∨
    (t.fault = none ∧ t.halted = true ∧ t.nir = i.addr ∧ t.cc = namedHalf i.mnemonic ∧
      i.mnemonic ∈ halts) ∨
    (∃ f, t.fault = some ⟨f, s.nir, s.cc⟩ ∧ t.halted = false ∧ t.nir = s.nir ∧ t.cc = s.cc)

/-- Rules R310, R360: an instruction answers a next state, unless it is one of the six typewriter opcodes, which are
refused by name (decision D17, log entry 12). That an instruction which faults answers a next state too, with the fault
record in it, is the model's form of a fault, decision D16 (log entry 10). -/
def Obligations.OnlyTypewriterOpcodesAreRefused : Prop :=
  ∀ (i : Instr) (s : State),
    (∃ t, exec i s = .next t) ∨
    (∃ op, exec i s = .refused (.typewriterOp op) ∧
      i.mnemonic ∈ [.writeLineBuffer, .readLineBuffer, .writeScr, .readScr, .matchScr, .mismatchScr])

/-- Rules R206, R398: `go()` ends normally only at a halt, with no fault record; with a fault only when the record is set;
and from a machine without a fault or a pending request it never waits on the MTC channel. -/
def Obligations.GoEndsOnlyAtAHaltOrAFault : Prop :=
  ∀ (n : Nat) (s : State),
    (∀ t, go n s = .halted t → t.halted = true ∧ t.fault = none) ∧
    (∀ r t, go n s = .faulted r t → t.fault = some r) ∧
    (∀ request t, s.mtcPending = none → go n s ≠ .waiting request t)

/-! ### Whole-machine rules -/

/-- Rule R28: only A, S, RS, RSV, STQ, SNQ, AQS, SQS and SNV change OV. -/
def Obligations.OverflowIsWrittenOnlyByTheAdder : Prop :=
  ∀ (i : Instr) (s t : State),
    i.mnemonic ∉ overflowWriters → exec i s = .next t → t.ov = s.ov

/-- Rule R27: OV is sticky; no step clears it. -/
def Obligations.OverflowIsSticky : Prop :=
  ∀ s t : State, step s = .next t → s.ov = true → t.ov = true

/-- The table of spec/10_state.md section 2: who writes A, MQ and DEVSEL; C alone takes cards, WD alone writes the drum, and
no instruction writes IR, the switches, the breakpoints, the trace toggle, the OPEN parameters or a pending request. -/
def Obligations.OnlyTheTablesWritersChangeARegister : Prop :=
  ∀ (i : Instr) (s t : State), exec i s = .next t →
    (i.mnemonic ∉ accumulatorWriters → t.a = s.a) ∧
    (i.mnemonic ∉ quotientWriters → t.mq = s.mq) ∧
    (i.mnemonic ≠ .sel → t.devsel = s.devsel) ∧
    (i.mnemonic ≠ .c → t.deck = s.deck) ∧
    (i.mnemonic ≠ .wd → t.drum = s.drum) ∧
    t.ir = s.ir ∧ t.inputs = s.inputs ∧ t.breakpoints = s.breakpoints ∧ t.trace = s.trace ∧
    t.params = s.params ∧ t.mtcPending = s.mtcPending

/-- Rules R51, R57: memory changes only at the address field of a store or of C, and in RD's block of k words from the address
field. -/
def Obligations.MemoryChangesOnlyWhereAStoreWrites : Prop :=
  ∀ (i : Instr) (s t : State), exec i s = .next t →
    (i.mnemonic ∉ wordStorers → i.mnemonic ≠ .rd → t.mem = s.mem) ∧
    (i.mnemonic ∈ wordStorers →
      ∀ b : Addr, b ≠ i.addr → storePeek t.mem b.toNat = storePeek s.mem b.toNat) ∧
    (i.mnemonic = .rd →
      ∀ b : Addr, (∀ j < (drumControl s.mq).count, b ≠ i.addr + BitVec.ofNat 12 j) →
        storePeek t.mem b.toNat = storePeek s.mem b.toNat)

/-- Rules R72, R209: breakpoints and the step/trace toggle have no effect: a step does the same with any of them. -/
def Obligations.BreakpointsAndTraceHaveNoEffect : Prop :=
  ∀ (points : List Addr) (tr : Bool) (s : State),
    step { s with breakpoints := points, trace := tr } =
      mapNext (fun u => { u with breakpoints := points, trace := tr }) (step s)

/-- Rule R24: no instruction reads an NR value written by an earlier one: up to NR itself, a step does not depend on it. -/
def Obligations.NumberRegisterIsNeverReadBack : Prop :=
  ∀ (v : Word) (s : State),
    mapNext (fun u => { u with nr := 0 }) (step { s with nr := v }) =
      mapNext (fun u => { u with nr := 0 }) (step s)

/-- Rule R27: no instruction reads OV: up to OV itself, a step does not depend on it. -/
def Obligations.OverflowToggleIsNeverRead : Prop :=
  ∀ (b : Bool) (s : State),
    mapNext (fun u => { u with ov := false }) (step { s with ov := b }) =
      mapNext (fun u => { u with ov := false }) (step s)

/-- Rules R50, R53, R350, R355 to R359: every step keeps the invariant: canonical memory and drum, no request pending, and a fault
record that tells the truth about the state. That a faulting step answers a next state, with the record in it, is
decision D16 (log entry 10). -/
def Obligations.EveryStepKeepsTheInvariant : Prop :=
  ∀ s t : State, s.inv = true → step s = .next t → t.inv = true

/-- Rules R35, R390: the construction state meets the invariant. -/
def Obligations.ResetMeetsTheInvariant : Prop :=
  State.reset.inv = true

/-- Rules R55, R392: so does every launch, whatever its images give and in whatever order. -/
def Obligations.EveryLaunchMeetsTheInvariant : Prop :=
  ∀ l : Launch, (launch l).inv = true

/-- Rules R51, R55, R64: a read after a write gives the value written, at that address, and what it gave before at every
other. -/
def Obligations.MemoryReadAfterWrite : Prop :=
  ∀ (addr : Addr) (v : Word) (s : State),
    memRead (memWrite addr v s) addr = some v ∧
    ∀ b : Addr, b ≠ addr → memRead (memWrite addr v s) b = memRead s b

/-! ### Add, subtract, load, logical -/

/-- Rules R102, R103: the adder's result and flag are exact: A holds the wrap of the signed sum or difference, and the value
lies outside [-2^39, 2^39) exactly when the flag is raised. That OV takes the flag by a set-only OR, so that an OV
already set stays, is decision D4 (log entry 17). -/
def Obligations.AdderIsExact : Prop :=
  ∀ (x : Word) (sub : Bool) (s : State),
    let exact := if sub then sval s.a - sval x else sval s.a + sval x
    (addCore x sub s).a = BitVec.ofInt 40 exact ∧
    ((addCore x sub s).ov = true ↔ s.ov = true ∨ exact < -2 ^ 39 ∨ 2 ^ 39 ≤ exact) ∧
    addCore x sub s = { s with nr := x, a := (addCore x sub s).a, ov := (addCore x sub s).ov }

/-- Rules R100, R102, R104, R356, R357: A adds; OV by agreement of signs before and after. That an OV already set stays
set is decision D4 (log entry 17); that the fault is a next state is decision D16 (log entry 10). -/
def Obligations.AddResult : Prop :=
  ∀ (addr : Addr) (s : State),
    (∀ x, memRead s addr = some x →
      exec (.a addr) s = .next (advance
        { s with
          nr := x
          a := s.a + x
          ov := s.ov || (sign s.a == sign x && sign (s.a + x) != sign s.a) })) ∧
    (memRead s addr = none →
      exec (.a addr) s = .next { s with fault := some ⟨.unwrittenRead addr, s.nir, s.cc⟩ })

/-- Rules R100 to R102, R105, R356, R357: S subtracts; the operand's sign is complemented first. OV already set stays
set by decision D4 (log entry 17); that the fault is a next state is decision D16 (log entry 10). -/
def Obligations.SubtractResult : Prop :=
  ∀ (addr : Addr) (s : State),
    (∀ x, memRead s addr = some x →
      exec (.s addr) s = .next (advance
        { s with
          nr := x
          a := s.a - x
          ov := s.ov || (sign s.a != sign x && sign (s.a - x) != sign s.a) })) ∧
    (memRead s addr = none →
      exec (.s addr) s = .next { s with fault := some ⟨.unwrittenRead addr, s.nir, s.cc⟩ })

/-- Rules R106, R356, R357: RA loads A, with OV untouched; an unwritten operand leaves A = 0. NR as any value is decision
D7 (log entry 7); that the fault is a next state, A = 0 kept, is decision D16 (log entry 10). -/
def Obligations.ResetAddLoadsA : Prop :=
  ∀ (addr : Addr) (s : State),
    (∀ x, memRead s addr = some x →
      ∃ v, exec (.ra addr) s = .next (advance (withAnyNr v { s with a := x }))) ∧
    (memRead s addr = none →
      exec (.ra addr) s =
        .next { s with a := 0, fault := some ⟨.unwrittenRead addr, s.nir, s.cc⟩ })

/-- Rules R107, R356, R357: RS loads the negation, with OV set exactly for the operand 2^39 (marked derived in R107). OV
already set stays set by decision D4 (log entry 17); the fault as a next state is decision D16 (log entry 10). -/
def Obligations.ResetSubtractLoadsTheNegation : Prop :=
  ∀ (addr : Addr) (s : State),
    (∀ x, memRead s addr = some x →
      exec (.rs addr) s = .next (advance
        { s with nr := x, a := -x, ov := s.ov || x == 0x8000000000#40 })) ∧
    (memRead s addr = none →
      exec (.rs addr) s =
        .next { s with a := 0, fault := some ⟨.unwrittenRead addr, s.nir, s.cc⟩ })

/-- Rules R108, R356, R357: RSV loads minus the magnitude, and never sets OV (marked derived in R108). OV already set
stays set by decision D4 (log entry 17); the fault as a next state is decision D16 (log entry 10). -/
def Obligations.ResetSubtractAbsoluteLoadsMinusMagnitude : Prop :=
  ∀ (addr : Addr) (s : State),
    (∀ x, memRead s addr = some x →
      exec (.rsv addr) s = .next (advance
        { s with nr := x, a := BitVec.ofInt 40 (-|sval x|) })) ∧
    (memRead s addr = none →
      exec (.rsv addr) s = .next { s with fault := some ⟨.unwrittenRead addr, s.nir, s.cc⟩ })

/-- Rules R109, R110, R356, R357: PI and NI, bit by bit. NR as any value is decision D7 (log entry 7); that the fault is a
next state is decision D16 (log entry 10). -/
def Obligations.LogicalInstructions : Prop :=
  ∀ (addr : Addr) (s : State),
    (∀ x, memRead s addr = some x →
      (∃ v w, exec (.pi addr) s = .next (advance (withAnyNr v { s with a := w })) ∧
        ∀ k < 40, w.getLsbD k = (s.a.getLsbD k && x.getLsbD k)) ∧
      (∃ v w, exec (.ni addr) s = .next (advance (withAnyNr v { s with a := w })) ∧
        ∀ k < 40, w.getLsbD k = (s.a.getLsbD k && !x.getLsbD k))) ∧
    (memRead s addr = none →
      ∀ i ∈ [Instr.pi addr, Instr.ni addr],
        exec i s = .next { s with fault := some ⟨.unwrittenRead addr, s.nir, s.cc⟩ })

/-- Rules R111, R356, R357: LM loads MQ (the spec's decision D8, log entry 19). NR as any value is decision D7 (log entry
7); that the fault is a next state is decision D16 (log entry 10). -/
def Obligations.LoadMqResult : Prop :=
  ∀ (addr : Addr) (s : State),
    (∀ x, memRead s addr = some x →
      ∃ v, exec (.lm addr) s = .next (advance (withAnyNr v { s with mq := x }))) ∧
    (memRead s addr = none →
      exec (.lm addr) s = .next { s with fault := some ⟨.unwrittenRead addr, s.nir, s.cc⟩ })

/-! ### Multiply and divide -/

/-- Rules R140 to R142, R145 to R147, R357: M, MA, D and DS on every operand, in and outside the domains of their laws: they
write A and MQ as the rounds of rules R140 and R145 give them over the integers, NR, and nothing else; the corner
values of rules R141, R143 and R146; and an unwritten operand leaves M's A, and DS's MQ, cleared. Additions that wrap
are decision D29 (log entry 24), a fault as a next state is decision D16 (log entry 10). -/
def Obligations.MultiplyAndDivideOnEveryOperand : Prop :=
  ∀ (addr : Addr) (s : State),
    (∀ x, memRead s addr = some x →
      exec (.m addr) s = .next (advance
        (withProduct x (multiplyExact (sval x) (0, s.mq.toNat)) s)) ∧
      exec (.ma addr) s = .next (advance
        (withProduct x (multiplyExact (sval x) (sval s.a, s.mq.toNat)) s)) ∧
      exec (.d addr) s = .next (advance
        (withProduct x (divideExact (sval x) (sval s.a, s.mq.toNat)) s)) ∧
      exec (.ds addr) s = .next (advance
        (withProduct x (divideExact (sval x) (sval s.a, 0)) s)) ∧
      (s.mq = 0 ∨ x = 0 →
        exec (.m addr) s = .next (advance { s with a := 0, mq := 0, nr := x })) ∧
      (∀ c ∈ multiplyCorners, s.mq = c.mq0 → x = c.nr →
        exec (.m addr) s = .next (advance { s with a := c.a, mq := c.mq, nr := x }) ∧
        (s.a = c.a0 →
          exec (.ma addr) s = .next (advance { s with a := c.a, mq := c.mq, nr := x }))) ∧
      (∀ c ∈ divideCorners, s.a = c.a0 → s.mq = c.mq0 → x = c.nr →
        exec (.d addr) s = .next (advance { s with a := c.a, mq := c.mq, nr := x }))) ∧
    (memRead s addr = none →
      exec (.m addr) s =
        .next { s with a := 0, fault := some ⟨.unwrittenRead addr, s.nir, s.cc⟩ } ∧
      exec (.ma addr) s = .next { s with fault := some ⟨.unwrittenRead addr, s.nir, s.cc⟩ } ∧
      exec (.d addr) s = .next { s with fault := some ⟨.unwrittenRead addr, s.nir, s.cc⟩ } ∧
      exec (.ds addr) s =
        .next { s with mq := 0, fault := some ⟨.unwrittenRead addr, s.nir, s.cc⟩ })

/-- Rule R143, the multiply law: on its domain M and MA leave the double-length value of `NR * MQ + A`, high in A and low in
MQ with MQ's sign zero (M's A is zero). -/
def Obligations.MultiplyLaw : Prop :=
  ∀ (addr : Addr) (s : State) (x : Word),
    memRead s addr = some x → |sval x| < 2 ^ 38 →
    exec (.m addr) s = .next (advance
      { s with
        a := BitVec.ofInt 40 (sval x * sval s.mq / 2 ^ 39)
        mq := BitVec.ofInt 40 (sval x * sval s.mq % 2 ^ 39)
        nr := x }) ∧
    (|sval s.a| < 2 ^ 38 →
      exec (.ma addr) s = .next (advance
        { s with
          a := BitVec.ofInt 40 ((sval x * sval s.mq + sval s.a) / 2 ^ 39)
          mq := BitVec.ofInt 40 ((sval x * sval s.mq + sval s.a) % 2 ^ 39)
          nr := x }))

/-- Rule R148, the divide law: on its domain D and DS leave a quotient Q in MQ and a remainder R in A with
`Q * NR + R = Dv`, R of the divisor's sign and smaller, never zero for a negative divisor: the known artifact. DS takes
MQ as 0. -/
def Obligations.DivideLaw : Prop :=
  ∀ (addr : Addr) (s : State) (x : Word),
    memRead s addr = some x → |sval x| < 2 ^ 38 → |sval s.a| < |sval x| →
    ∀ p ∈ [(Instr.d addr, ((s.mq.toNat % 2 ^ 39 : Nat) : Int)), (Instr.ds addr, (0 : Int))],
      ∃ r q, exec p.1 s = .next (advance { s with a := r, mq := q, nr := x }) ∧
        sval q * sval x + sval r = sval s.a * 2 ^ 39 + p.2 ∧
        (0 < sval x → 0 ≤ sval r ∧ sval r < sval x) ∧
        (sval x < 0 → sval x ≤ sval r ∧ sval r ≤ -1)

/-! ### Shifts -/

/-- Rules R175, R176, R182: LRC and LRH in closed form: the 79-bit pair A:MQ[38:0], signed by A, divided by 2^n and
floored; MQ's sign is A's. LRC takes MQ as 0. -/
def Obligations.PowerRightShiftsInClosedForm : Prop :=
  ∀ (addr : Addr) (s : State),
    ∀ p ∈ [(Instr.lrh addr, ((s.mq.toNat % 2 ^ 39 : Nat) : Int)), (Instr.lrc addr, (0 : Int))],
      let y := (sval s.a * 2 ^ 39 + p.2) / 2 ^ addr.toNat
      ∃ v, exec p.1 s = .next (advance (withAnyNr v
        { s with
          a := BitVec.ofInt 40 (y / 2 ^ 39)
          mq := BitVec.ofInt 40 (y % 2 ^ 39 + if y < 0 then 2 ^ 39 else 0) }))

/-- Rules R177, R182: LLH in closed form: the 79-bit pair times 2^n modulo 2^79, MQ's sign held. -/
def Obligations.PowerLeftShiftInClosedForm : Prop :=
  ∀ (addr : Addr) (s : State),
    let y := ((s.a.toNat * 2 ^ 39 + s.mq.toNat % 2 ^ 39) * 2 ^ addr.toNat) % 2 ^ 79
    ∃ v, exec (.llh addr) s = .next (advance (withAnyNr v
      { s with
        a := BitVec.ofNat 40 (y / 2 ^ 39)
        mq := BitVec.ofNat 40 (s.mq.toNat / 2 ^ 39 * 2 ^ 39 + y % 2 ^ 39) }))

/-- Rules R178, R179, R182: CLC and CLH in closed form: the 80-bit ring A:MQ rotated left by n modulo 80. CLC takes MQ
as 0. -/
def Obligations.CircularShiftsInClosedForm : Prop :=
  ∀ (addr : Addr) (s : State),
    ∀ p ∈ [(Instr.clh addr, s.mq), (Instr.clc addr, (0 : Word))],
      let y : BitVec 80 := (s.a ++ p.2).rotateLeft (addr.toNat % 80)
      ∃ v, exec p.1 s = .next (advance (withAnyNr v
        { s with a := y.extractLsb' 40 40, mq := y.extractLsb' 0 40 }))

/-- Rule R179's law: CLH by 40 exchanges A and MQ and by 80 is the identity; with rule R178's clear first, CLC by 40 gives
(0, A) and by 80 (A, 0). Of the counts, these two only; that the address field is the count, unmasked, is decision D5
(log entry 18), and NR as any value is decision D7 (log entry 7). -/
def Obligations.CircularShiftBy40SwapsAndBy80IsTheIdentity : Prop :=
  ∀ s : State,
    (∃ v, exec (.clh 40) s = .next (advance (withAnyNr v { s with a := s.mq, mq := s.a }))) ∧
    (∃ v, exec (.clh 80) s = .next (advance (withAnyNr v s))) ∧
    (∃ v, exec (.clc 40) s = .next (advance (withAnyNr v { s with a := 0, mq := s.a }))) ∧
    (∃ v, exec (.clc 80) s = .next (advance (withAnyNr v { s with mq := 0 })))

/-- Rules R180, R181, R182: SRC and SRH shift A right by n with zero fill; SRC clears MQ, SRH leaves it. -/
def Obligations.LogicalRightShiftsOfA : Prop :=
  ∀ (addr : Addr) (s : State),
    (∃ v, exec (.srh addr) s = .next (advance (withAnyNr v
      { s with a := BitVec.ofNat 40 (s.a.toNat / 2 ^ addr.toNat) }))) ∧
    (∃ v, exec (.src addr) s = .next (advance (withAnyNr v
      { s with a := BitVec.ofNat 40 (s.a.toNat / 2 ^ addr.toNat), mq := 0 })))

/-! ### Transfers and halts -/

/-- Rules R231 to R236: TNx transfers if A's sign bit is 1, TPx if it is 0, TRx always, to the half the last letter names;
otherwise the normal advance. NR as any value is the choice of log entry 7 (decision D7, where the preamble of
spec/45_transfer_halt.md says that they do not write NR). -/
def Obligations.TransfersOnTheSignOfA : Prop :=
  ∀ (addr : Addr) (s : State),
    ∀ p ∈ [(Instr.tnl addr, sign s.a, Half.left), (Instr.tnr addr, sign s.a, Half.right),
        (Instr.tpl addr, !sign s.a, Half.left), (Instr.tpr addr, !sign s.a, Half.right),
        (Instr.trl addr, true, Half.left), (Instr.trr addr, true, Half.right)],
      ∃ v, exec p.1 s = .next
        (if p.2.1 then { withAnyNr v s with nir := addr, cc := p.2.2 }
          else advance (withAnyNr v s))

/-- Rules R237 to R242: a transfer on a T switch is taken iff the switch is set when it executes. The switch
as fixed or a draw is decision D18 (log entry 8), NR as any value log entry 7, the two draws counted log entry 9. -/
def Obligations.TransfersOnTheTSwitches : Prop :=
  ∀ (addr : Addr) (s : State),
    ∀ p ∈ [(Instr.t1l addr, HostSwitch.t1, Half.left), (Instr.t1r addr, HostSwitch.t1, Half.right),
        (Instr.t2l addr, HostSwitch.t2, Half.left), (Instr.t2r addr, HostSwitch.t2, Half.right),
        (Instr.t3l addr, HostSwitch.t3, Half.left), (Instr.t3r addr, HostSwitch.t3, Half.right)],
      ∃ v, exec p.1 s = .next
        (if switchValue p.2.1 s
          then { s with nir := addr, cc := p.2.2, nr := v, draws := s.draws + 2 }
          else advance { s with nr := v, draws := s.draws + 2 })

/-- Rules R243 to R250: HTx halts, and HkL and HkR halt iff switch Hk is set when they execute: HALTED is set and the
address and half are written; otherwise the normal advance. The switch as fixed or a draw
is decision D18 (log entry 8), NR as any value log entry 7 (where the preamble of spec/45_transfer_halt.md says not
written), the draws counted, one for HTx and two for HkL and HkR, log entry 9. -/
def Obligations.HaltInstructions : Prop :=
  ∀ (addr : Addr) (s : State),
    (∀ p ∈ [(Instr.htl addr, Half.left), (Instr.htr addr, Half.right)],
      ∃ v, exec p.1 s = .next
        { withAnyNr v s with halted := true, nir := addr, cc := p.2 }) ∧
    (∀ p ∈ [(Instr.h1l addr, HostSwitch.h1, Half.left), (Instr.h1r addr, HostSwitch.h1, Half.right),
        (Instr.h2l addr, HostSwitch.h2, Half.left), (Instr.h2r addr, HostSwitch.h2, Half.right),
        (Instr.h3l addr, HostSwitch.h3, Half.left), (Instr.h3r addr, HostSwitch.h3, Half.right)],
      ∃ v, exec p.1 s = .next
        (if switchValue p.2.1 s
          then { s with halted := true, nir := addr, cc := p.2.2, nr := v, draws := s.draws + 2 }
          else advance { s with nr := v, draws := s.draws + 2 }))

/-! ### Stores -/

/-- Rules R270 to R274: a partial store writes A's bits in its ranges and keeps the target's others: SAL bits 32..20, SOR
19..12, SAR 11..0, SAB 32..20 and 11..0; an unwritten target writes nothing. Three of
the masks are marked derived in R270; NR as any value is decision D7 (log entry 7), the fault as a next state decision
D16 (log entry 10). -/
def Obligations.PartialStoresWriteTheirBitsOnly : Prop :=
  ∀ (addr : Addr) (s : State),
    ∀ p ∈ [(Instr.sal addr, [(20, 32)]), (Instr.sor addr, [(12, 19)]), (Instr.sar addr, [(0, 11)]),
        (Instr.sab addr, [(20, 32), (0, 11)])],
      (∀ w, memRead s addr = some w →
        ∃ v w', exec p.1 s = .next (advance (withAnyNr v
            { s with mem := storePut addr.toNat w' s.mem })) ∧
          ∀ k < 40, w'.getLsbD k =
            if p.2.any (fun r => r.1 ≤ k && k ≤ r.2) then s.a.getLsbD k else w.getLsbD k) ∧
      (memRead s addr = none →
        exec p.1 s = .next { s with fault := some ⟨.unwrittenRead addr, s.nir, s.cc⟩ })

/-- Rules R275 to R277, R280: STQ, SNQ and SNV load A with MQ, minus MQ, or minus MQ's magnitude, and store it at the address
field; only SNQ of 2^39 sets OV. An OV already set stays set by decision D4 (log entry 17). -/
def Obligations.ResettingMqStores : Prop :=
  ∀ (addr : Addr) (s : State),
    ∀ p ∈ [(Instr.stq addr, s.mq, false), (Instr.snq addr, -s.mq, s.mq == 0x8000000000#40),
        (Instr.snv addr, BitVec.ofInt 40 (-|sval s.mq|), false)],
      exec p.1 s = .next (advance
        { s with
          nr := s.mq
          a := p.2.1
          ov := s.ov || p.2.2
          mem := storePut addr.toNat p.2.1 s.mem })

/-- Rules R275, R278, R279: AQS and SQS add or subtract MQ, set OV as A and S do, and store A at the address field.
An OV already set stays set by decision D4 (log entry 17). -/
def Obligations.AccumulatingMqStores : Prop :=
  ∀ (addr : Addr) (s : State),
    exec (.aqs addr) s = .next (advance
      { s with
        nr := s.mq
        a := s.a + s.mq
        ov := s.ov || (sign s.a == sign s.mq && sign (s.a + s.mq) != sign s.a)
        mem := storePut addr.toNat (s.a + s.mq) s.mem }) ∧
    exec (.sqs addr) s = .next (advance
      { s with
        nr := s.mq
        a := s.a - s.mq
        ov := s.ov || (sign s.a != sign s.mq && sign (s.a - s.mq) != sign s.a)
        mem := storePut addr.toNat (s.a - s.mq) s.mem })

/-! ### I/O, drum, clear and typewriter -/

/-- Rule R300: SEL stores the low octal digit of the address field (the spec's decision D10). -/
def Obligations.SelectStoresTheLowOctalDigit : Prop :=
  ∀ (addr : Addr) (s : State),
    ∃ v, exec (.sel addr) s = .next (advance (withAnyNr v
      { s with devsel := BitVec.ofNat 3 (addr.toNat % 8) }))

/-- Rules R67, R301, R302: C against the card feed stores the next card's high half at the address field and loads A with
its low half, consuming one card. -/
def Obligations.CardCopiesTheNextCard : Prop :=
  ∀ (addr : Addr) (s : State) (card : Card) (rest : List Card),
    s.devsel = s.params.cardFeedDevice → s.deck = card :: rest →
    ∃ v, exec (.c addr) s = .next (advance (withAnyNr v
      { s with
        deck := rest
        mem := storePut addr.toNat (BitVec.ofNat 40 (card.toNat / 2 ^ 40)) s.mem
        a := BitVec.ofNat 40 (card.toNat % 2 ^ 40) }))

/-- Rules R353, R354: C against another device, or with no card left, records its fault and changes nothing else.
The order behind the second clause is decision D24 (log entry 20); that the fault is a next state with all else kept
is decision D16 (log entry 10). -/
def Obligations.CardFaultsChangeNothing : Prop :=
  ∀ (addr : Addr) (s : State),
    (s.devsel ≠ s.params.cardFeedDevice →
      exec (.c addr) s =
        .next { s with fault := some ⟨.unimplementedDevice s.devsel, s.nir, s.cc⟩ }) ∧
    (s.devsel = s.params.cardFeedDevice → s.deck = [] →
      exec (.c addr) s = .next { s with fault := some ⟨.cardsExhausted, s.nir, s.cc⟩ })

/-- Rule R303: the fields of the drum control word (the spec's decisions D12 and D13). -/
def Obligations.DrumControlWordFields : Prop :=
  ∀ mq : Word,
    let first := mq.toNat / 2 ^ 21 % 4096
    let cb := mq.toNat / 2 ^ 12 % 128
    let last := mq.toNat % 4096
    (drumControl mq).first.toNat = first ∧
    (drumControl mq).drumUnit.drum.toNat = cb / 64 % 8 ∧
    (drumControl mq).drumUnit.position.toNat = cb / 8 % 8 ∧
    (drumControl mq).drumUnit.band.toNat = cb % 8 ∧
    (drumControl mq).count = if first ≤ last then last - first + 1 else 0

/-- Rules R304, R355: RD copies k drum words to memory from the address field on, modulo 4096; a block of words from a unit
that is not admitted records DrumBounds and moves nothing. That this fault is a next state is decision D16 (log entry
10); the control word's fields and the empty and wrapping blocks are decisions D12 and D13 (log entry 21), NR as any
value decision D7 (log entry 7). -/
def Obligations.DrumReadMovesTheBlock : Prop :=
  ∀ (addr : Addr) (s : State),
    let b := drumControl s.mq
    (b.count = 0 ∨ drumAdmitted s b.drumUnit = true →
      ∃ v m, exec (.rd addr) s = .next (advance (withAnyNr v { s with mem := m })) ∧
        (∀ j < b.count, storePeek m (addr + BitVec.ofNat 12 j).toNat =
          some (drumWord s b.drumUnit (b.first + BitVec.ofNat 12 j))) ∧
        (∀ c : Addr, (∀ j < b.count, c ≠ addr + BitVec.ofNat 12 j) →
          storePeek m c.toNat = storePeek s.mem c.toNat)) ∧
    (b.count ≠ 0 → drumAdmitted s b.drumUnit = false →
      exec (.rd addr) s =
        .next { s with fault := some ⟨.drumBounds b.drumUnit, s.nir, s.cc⟩ })

/-- Rule R305: WD copies k memory words, all readable, to an admitted drum unit, and changes no other drum word. -/
def Obligations.DrumWriteMovesTheBlock : Prop :=
  ∀ (addr : Addr) (s : State),
    let b := drumControl s.mq
    (b.count = 0 ∨ drumAdmitted s b.drumUnit = true) →
    (∀ j < b.count, memRead s (addr + BitVec.ofNat 12 j) ≠ none) →
    ∃ v d, exec (.wd addr) s = .next (advance (withAnyNr v { s with drum := d })) ∧
      (∀ j < b.count, storePeek d (drumKey b.drumUnit (b.first + BitVec.ofNat 12 j)) =
        memRead s (addr + BitVec.ofNat 12 j)) ∧
      (∀ (u : DrumUnit) (c : Addr),
        (u ≠ b.drumUnit ∨ ∀ j < b.count, c ≠ b.first + BitVec.ofNat 12 j) →
        storePeek d (drumKey u c) = storePeek s.drum (drumKey u c))

/-- Rules R305, R357, R363: WD stops at the first word it cannot read, with the words before it moved and
no other drum word changed; where the unit is not admitted, at the first word, the unwritten read before the bounds. The
fault as a next state is decision D16 (log entry 10), the words that stay moved D27, the order D26. -/
def Obligations.DrumWriteStopsAtTheFirstFault : Prop :=
  ∀ (addr : Addr) (s : State) (n : Nat),
    let b := drumControl s.mq
    n < b.count →
    (drumAdmitted s b.drumUnit = true → memRead s (addr + BitVec.ofNat 12 n) = none →
      (∀ j < n, memRead s (addr + BitVec.ofNat 12 j) ≠ none) →
      ∃ d, exec (.wd addr) s =
          .next { s with
            drum := d
            fault := some ⟨.unwrittenRead (addr + BitVec.ofNat 12 n), s.nir, s.cc⟩ } ∧
        (∀ j < n, storePeek d (drumKey b.drumUnit (b.first + BitVec.ofNat 12 j)) =
          memRead s (addr + BitVec.ofNat 12 j)) ∧
        ∀ (u : DrumUnit) (c : Addr),
          (u ≠ b.drumUnit ∨ ∀ j < n, c ≠ b.first + BitVec.ofNat 12 j) →
          storePeek d (drumKey u c) = storePeek s.drum (drumKey u c)) ∧
    (drumAdmitted s b.drumUnit = false →
      exec (.wd addr) s =
        .next { s with
          fault := some ⟨match memRead s addr with
            | none => .unwrittenRead addr
            | some _ => .drumBounds b.drumUnit, s.nir, s.cc⟩ })

/-- Rules R306 to R309: CLEAR1 to CLEAR4 zero A and change nothing else: OV, MQ, NR and memory stay by decision D28 (log
entry 23). -/
def Obligations.ClearInstructionsZeroA : Prop :=
  ∀ (addr : Addr) (s : State),
    ∀ i ∈ [Instr.clear1 addr, Instr.clear2 addr, Instr.clear3 addr, Instr.clear4 addr],
      exec i s = .next (advance { s with a := 0 })

/-- Rules R310 to R316: each typewriter opcode is refused under its own name, in every state. The refusal is
decision D17 (log entry 12). -/
def Obligations.TypewriterOpcodesAreRefusedByName : Prop :=
  ∀ (addr : Addr) (s : State),
    ∀ p ∈ [(Instr.writeLineBuffer addr, TypewriterOp.writeLineBuffer),
        (Instr.readLineBuffer addr, TypewriterOp.readLineBuffer),
        (Instr.writeScr addr, TypewriterOp.writeScr), (Instr.readScr addr, TypewriterOp.readScr),
        (Instr.matchScr addr, TypewriterOp.matchScr),
        (Instr.mismatchScr addr, TypewriterOp.mismatchScr)],
      exec p.1 s = .refused (.typewriterOp p.2)
end

