-- ==== Sys2Proof/Laws/PerInstr.lean ====
section
/-! SUPPORT. The family OperandFields: an instruction is its mnemonic and its address field and nothing else (spec/30_encoding.md rule
R84: "The only operand is the 12-bit address field"). -/

namespace Sys2Proof

/-- Every mnemonic stands in the list of rule R87. -/
theorem mem_allMnemonics (name : Mnemonic) : name ∈ allMnemonics := by
  cases name <;> decide

end Sys2Proof

namespace Sys2Proof.Laws.OperandFields

/-- The instruction of a mnemonic and an address gives both back, and is determined by them. -/
def Statement (i : Instr) : Prop := instrOf i.mnemonic i.addr = i ∧ i.mnemonic ∈ allMnemonics

theorem a (addr : Addr) : Statement (.a addr) := ⟨rfl, mem_allMnemonics _⟩
theorem s (addr : Addr) : Statement (.s addr) := ⟨rfl, mem_allMnemonics _⟩
theorem ra (addr : Addr) : Statement (.ra addr) := ⟨rfl, mem_allMnemonics _⟩
theorem rs (addr : Addr) : Statement (.rs addr) := ⟨rfl, mem_allMnemonics _⟩
theorem rsv (addr : Addr) : Statement (.rsv addr) := ⟨rfl, mem_allMnemonics _⟩
theorem pi (addr : Addr) : Statement (.pi addr) := ⟨rfl, mem_allMnemonics _⟩
theorem ni (addr : Addr) : Statement (.ni addr) := ⟨rfl, mem_allMnemonics _⟩
theorem lm (addr : Addr) : Statement (.lm addr) := ⟨rfl, mem_allMnemonics _⟩
theorem m (addr : Addr) : Statement (.m addr) := ⟨rfl, mem_allMnemonics _⟩
theorem ma (addr : Addr) : Statement (.ma addr) := ⟨rfl, mem_allMnemonics _⟩
theorem d (addr : Addr) : Statement (.d addr) := ⟨rfl, mem_allMnemonics _⟩
theorem ds (addr : Addr) : Statement (.ds addr) := ⟨rfl, mem_allMnemonics _⟩
theorem lrc (addr : Addr) : Statement (.lrc addr) := ⟨rfl, mem_allMnemonics _⟩
theorem lrh (addr : Addr) : Statement (.lrh addr) := ⟨rfl, mem_allMnemonics _⟩
theorem llh (addr : Addr) : Statement (.llh addr) := ⟨rfl, mem_allMnemonics _⟩
theorem clc (addr : Addr) : Statement (.clc addr) := ⟨rfl, mem_allMnemonics _⟩
theorem clh (addr : Addr) : Statement (.clh addr) := ⟨rfl, mem_allMnemonics _⟩
theorem src (addr : Addr) : Statement (.src addr) := ⟨rfl, mem_allMnemonics _⟩
theorem srh (addr : Addr) : Statement (.srh addr) := ⟨rfl, mem_allMnemonics _⟩
theorem tnl (addr : Addr) : Statement (.tnl addr) := ⟨rfl, mem_allMnemonics _⟩
theorem tnr (addr : Addr) : Statement (.tnr addr) := ⟨rfl, mem_allMnemonics _⟩
theorem tpl (addr : Addr) : Statement (.tpl addr) := ⟨rfl, mem_allMnemonics _⟩
theorem tpr (addr : Addr) : Statement (.tpr addr) := ⟨rfl, mem_allMnemonics _⟩
theorem trl (addr : Addr) : Statement (.trl addr) := ⟨rfl, mem_allMnemonics _⟩
theorem trr (addr : Addr) : Statement (.trr addr) := ⟨rfl, mem_allMnemonics _⟩
theorem t1l (addr : Addr) : Statement (.t1l addr) := ⟨rfl, mem_allMnemonics _⟩
theorem t1r (addr : Addr) : Statement (.t1r addr) := ⟨rfl, mem_allMnemonics _⟩
theorem t2l (addr : Addr) : Statement (.t2l addr) := ⟨rfl, mem_allMnemonics _⟩
theorem t2r (addr : Addr) : Statement (.t2r addr) := ⟨rfl, mem_allMnemonics _⟩
theorem t3l (addr : Addr) : Statement (.t3l addr) := ⟨rfl, mem_allMnemonics _⟩
theorem t3r (addr : Addr) : Statement (.t3r addr) := ⟨rfl, mem_allMnemonics _⟩
theorem htl (addr : Addr) : Statement (.htl addr) := ⟨rfl, mem_allMnemonics _⟩
theorem htr (addr : Addr) : Statement (.htr addr) := ⟨rfl, mem_allMnemonics _⟩
theorem h1l (addr : Addr) : Statement (.h1l addr) := ⟨rfl, mem_allMnemonics _⟩
theorem h1r (addr : Addr) : Statement (.h1r addr) := ⟨rfl, mem_allMnemonics _⟩
theorem h2l (addr : Addr) : Statement (.h2l addr) := ⟨rfl, mem_allMnemonics _⟩
theorem h2r (addr : Addr) : Statement (.h2r addr) := ⟨rfl, mem_allMnemonics _⟩
theorem h3l (addr : Addr) : Statement (.h3l addr) := ⟨rfl, mem_allMnemonics _⟩
theorem h3r (addr : Addr) : Statement (.h3r addr) := ⟨rfl, mem_allMnemonics _⟩
theorem sal (addr : Addr) : Statement (.sal addr) := ⟨rfl, mem_allMnemonics _⟩
theorem sor (addr : Addr) : Statement (.sor addr) := ⟨rfl, mem_allMnemonics _⟩
theorem sar (addr : Addr) : Statement (.sar addr) := ⟨rfl, mem_allMnemonics _⟩
theorem sab (addr : Addr) : Statement (.sab addr) := ⟨rfl, mem_allMnemonics _⟩
theorem stq (addr : Addr) : Statement (.stq addr) := ⟨rfl, mem_allMnemonics _⟩
theorem snq (addr : Addr) : Statement (.snq addr) := ⟨rfl, mem_allMnemonics _⟩
theorem aqs (addr : Addr) : Statement (.aqs addr) := ⟨rfl, mem_allMnemonics _⟩
theorem sqs (addr : Addr) : Statement (.sqs addr) := ⟨rfl, mem_allMnemonics _⟩
theorem snv (addr : Addr) : Statement (.snv addr) := ⟨rfl, mem_allMnemonics _⟩
theorem sel (addr : Addr) : Statement (.sel addr) := ⟨rfl, mem_allMnemonics _⟩
theorem c (addr : Addr) : Statement (.c addr) := ⟨rfl, mem_allMnemonics _⟩
theorem rd (addr : Addr) : Statement (.rd addr) := ⟨rfl, mem_allMnemonics _⟩
theorem wd (addr : Addr) : Statement (.wd addr) := ⟨rfl, mem_allMnemonics _⟩
theorem clear1 (addr : Addr) : Statement (.clear1 addr) := ⟨rfl, mem_allMnemonics _⟩
theorem clear2 (addr : Addr) : Statement (.clear2 addr) := ⟨rfl, mem_allMnemonics _⟩
theorem clear3 (addr : Addr) : Statement (.clear3 addr) := ⟨rfl, mem_allMnemonics _⟩
theorem clear4 (addr : Addr) : Statement (.clear4 addr) := ⟨rfl, mem_allMnemonics _⟩
theorem writeLineBuffer (addr : Addr) : Statement (.writeLineBuffer addr) := ⟨rfl, mem_allMnemonics _⟩
theorem readLineBuffer (addr : Addr) : Statement (.readLineBuffer addr) := ⟨rfl, mem_allMnemonics _⟩
theorem writeScr (addr : Addr) : Statement (.writeScr addr) := ⟨rfl, mem_allMnemonics _⟩
theorem readScr (addr : Addr) : Statement (.readScr addr) := ⟨rfl, mem_allMnemonics _⟩
theorem matchScr (addr : Addr) : Statement (.matchScr addr) := ⟨rfl, mem_allMnemonics _⟩
theorem mismatchScr (addr : Addr) : Statement (.mismatchScr addr) := ⟨rfl, mem_allMnemonics _⟩

end Sys2Proof.Laws.OperandFields

namespace Sys2Proof

/-- The mnemonic of an instruction built from a mnemonic. -/
@[simp] theorem instrOf_mnemonic (name : Mnemonic) (addr : Addr) : (instrOf name addr).mnemonic = name := by
  cases name <;> rfl

/-- The address field of an instruction built from one. -/
@[simp] theorem instrOf_addr (name : Mnemonic) (addr : Addr) : (instrOf name addr).addr = addr := by
  cases name <;> rfl

end Sys2Proof
end

