-- ==== Sys2Proof/Laws/Decode.lean ====
section
/-! SUPPORT. The fields of a half and the halves of a word. -/

namespace Sys2Proof

/-- The bits of a half: the address field below bit 12, the op field above (rule R82). -/
theorem halfOf_getLsbD (op : OpField) (addr : Addr) (k : Nat) :
    (halfOf op addr).getLsbD k = if k < 12 then addr.getLsbD k else op.getLsbD (k - 12) := by
  rw [← BitVec.getLsbD_append]; rfl

@[simp] theorem halfOp_halfOf (op : OpField) (addr : Addr) : halfOp (halfOf op addr) = op := by
  unfold halfOp
  ext k hk
  simp [halfOf_getLsbD, hk]

@[simp] theorem halfAddr_halfOf (op : OpField) (addr : Addr) :
    halfAddr (halfOf op addr) = addr := by
  unfold halfAddr
  ext k hk
  simp [halfOf_getLsbD, hk]

@[simp] theorem selectHalf_joinHalves (l : HalfWord) (padding : BitVec 2) (r : HalfWord) (cc : Half) :
    selectHalf (joinHalves l padding r) cc = match cc with | .left => l | .right => r := by
  cases cc <;>
  · simp only [selectHalf, decodeWord, joinHalves, halfOf]
    ext k hk
    simp only [BitVec.getElem_append, BitVec.getElem_extractLsb', BitVec.getLsbD_append]
    grind

/-- What a half decodes to is decided by its op field's class (rule R88). -/
theorem decodeHalf_halfOf (map : OpcodeMap) (op : OpField) (addr : Addr) :
    decodeHalf map (halfOf op addr) =
      match map.classOf op with
      | .op name => .instr (instrOf name addr)
      | .unimplemented name => .unimplemented op name
      | .unknown => .unknown op := by
  cases h : map.classOf op <;> simp only [decodeHalf, halfOp_halfOf, halfAddr_halfOf, h]

end Sys2Proof
end

