-- ==== Sys2Proof/Laws/State.lean ====
section
/-! SUPPORT. One lemma per field per named update of State, so that no later proof unfolds a record update. -/

namespace Sys2Proof.Machine

variable (s : State)

/-! ### memWrite -/

@[simp] theorem memWrite_a (addr : Addr) (v : Word) : (memWrite addr v s).a = s.a := rfl
@[simp] theorem memWrite_mq (addr : Addr) (v : Word) : (memWrite addr v s).mq = s.mq := rfl
@[simp] theorem memWrite_nr (addr : Addr) (v : Word) : (memWrite addr v s).nr = s.nr := rfl
@[simp] theorem memWrite_ir (addr : Addr) (v : Word) : (memWrite addr v s).ir = s.ir := rfl
@[simp] theorem memWrite_nir (addr : Addr) (v : Word) : (memWrite addr v s).nir = s.nir := rfl
@[simp] theorem memWrite_ov (addr : Addr) (v : Word) : (memWrite addr v s).ov = s.ov := rfl
@[simp] theorem memWrite_cc (addr : Addr) (v : Word) : (memWrite addr v s).cc = s.cc := rfl
@[simp] theorem memWrite_halted (addr : Addr) (v : Word) : (memWrite addr v s).halted = s.halted := rfl
@[simp] theorem memWrite_devsel (addr : Addr) (v : Word) : (memWrite addr v s).devsel = s.devsel := rfl
@[simp] theorem memWrite_mem (addr : Addr) (v : Word) : (memWrite addr v s).mem = storePut addr.toNat v s.mem := rfl
@[simp] theorem memWrite_drum (addr : Addr) (v : Word) : (memWrite addr v s).drum = s.drum := rfl
@[simp] theorem memWrite_deck (addr : Addr) (v : Word) : (memWrite addr v s).deck = s.deck := rfl
@[simp] theorem memWrite_fault (addr : Addr) (v : Word) : (memWrite addr v s).fault = s.fault := rfl
@[simp] theorem memWrite_mtcPending (addr : Addr) (v : Word) : (memWrite addr v s).mtcPending = s.mtcPending := rfl
@[simp] theorem memWrite_inputs (addr : Addr) (v : Word) : (memWrite addr v s).inputs = s.inputs := rfl
@[simp] theorem memWrite_breakpoints (addr : Addr) (v : Word) : (memWrite addr v s).breakpoints = s.breakpoints := rfl
@[simp] theorem memWrite_trace (addr : Addr) (v : Word) : (memWrite addr v s).trace = s.trace := rfl
@[simp] theorem memWrite_draws (addr : Addr) (v : Word) : (memWrite addr v s).draws = s.draws := rfl
@[simp] theorem memWrite_params (addr : Addr) (v : Word) : (memWrite addr v s).params = s.params := rfl

/-! ### countDraw -/

@[simp] theorem countDraw_a : (countDraw s).a = s.a := rfl
@[simp] theorem countDraw_mq : (countDraw s).mq = s.mq := rfl
@[simp] theorem countDraw_nr : (countDraw s).nr = s.nr := rfl
@[simp] theorem countDraw_ir : (countDraw s).ir = s.ir := rfl
@[simp] theorem countDraw_nir : (countDraw s).nir = s.nir := rfl
@[simp] theorem countDraw_ov : (countDraw s).ov = s.ov := rfl
@[simp] theorem countDraw_cc : (countDraw s).cc = s.cc := rfl
@[simp] theorem countDraw_halted : (countDraw s).halted = s.halted := rfl
@[simp] theorem countDraw_devsel : (countDraw s).devsel = s.devsel := rfl
@[simp] theorem countDraw_mem : (countDraw s).mem = s.mem := rfl
@[simp] theorem countDraw_drum : (countDraw s).drum = s.drum := rfl
@[simp] theorem countDraw_deck : (countDraw s).deck = s.deck := rfl
@[simp] theorem countDraw_fault : (countDraw s).fault = s.fault := rfl
@[simp] theorem countDraw_mtcPending : (countDraw s).mtcPending = s.mtcPending := rfl
@[simp] theorem countDraw_inputs : (countDraw s).inputs = s.inputs := rfl
@[simp] theorem countDraw_breakpoints : (countDraw s).breakpoints = s.breakpoints := rfl
@[simp] theorem countDraw_trace : (countDraw s).trace = s.trace := rfl
@[simp] theorem countDraw_draws : (countDraw s).draws = s.draws + 1 := rfl
@[simp] theorem countDraw_params : (countDraw s).params = s.params := rfl

/-! ### drawNr -/

@[simp] theorem drawNr_a : (drawNr s).a = s.a := rfl
@[simp] theorem drawNr_mq : (drawNr s).mq = s.mq := rfl
@[simp] theorem drawNr_nr : (drawNr s).nr = Config.nrDraw s.draws := rfl
@[simp] theorem drawNr_ir : (drawNr s).ir = s.ir := rfl
@[simp] theorem drawNr_nir : (drawNr s).nir = s.nir := rfl
@[simp] theorem drawNr_ov : (drawNr s).ov = s.ov := rfl
@[simp] theorem drawNr_cc : (drawNr s).cc = s.cc := rfl
@[simp] theorem drawNr_halted : (drawNr s).halted = s.halted := rfl
@[simp] theorem drawNr_devsel : (drawNr s).devsel = s.devsel := rfl
@[simp] theorem drawNr_mem : (drawNr s).mem = s.mem := rfl
@[simp] theorem drawNr_drum : (drawNr s).drum = s.drum := rfl
@[simp] theorem drawNr_deck : (drawNr s).deck = s.deck := rfl
@[simp] theorem drawNr_fault : (drawNr s).fault = s.fault := rfl
@[simp] theorem drawNr_mtcPending : (drawNr s).mtcPending = s.mtcPending := rfl
@[simp] theorem drawNr_inputs : (drawNr s).inputs = s.inputs := rfl
@[simp] theorem drawNr_breakpoints : (drawNr s).breakpoints = s.breakpoints := rfl
@[simp] theorem drawNr_trace : (drawNr s).trace = s.trace := rfl
@[simp] theorem drawNr_draws : (drawNr s).draws = s.draws + 1 := rfl
@[simp] theorem drawNr_params : (drawNr s).params = s.params := rfl

/-! ### withAnyNr -/

@[simp] theorem withAnyNr_a (v : Word) : (withAnyNr v s).a = s.a := rfl
@[simp] theorem withAnyNr_mq (v : Word) : (withAnyNr v s).mq = s.mq := rfl
@[simp] theorem withAnyNr_nr (v : Word) : (withAnyNr v s).nr = v := rfl
@[simp] theorem withAnyNr_ir (v : Word) : (withAnyNr v s).ir = s.ir := rfl
@[simp] theorem withAnyNr_nir (v : Word) : (withAnyNr v s).nir = s.nir := rfl
@[simp] theorem withAnyNr_ov (v : Word) : (withAnyNr v s).ov = s.ov := rfl
@[simp] theorem withAnyNr_cc (v : Word) : (withAnyNr v s).cc = s.cc := rfl
@[simp] theorem withAnyNr_halted (v : Word) : (withAnyNr v s).halted = s.halted := rfl
@[simp] theorem withAnyNr_devsel (v : Word) : (withAnyNr v s).devsel = s.devsel := rfl
@[simp] theorem withAnyNr_mem (v : Word) : (withAnyNr v s).mem = s.mem := rfl
@[simp] theorem withAnyNr_drum (v : Word) : (withAnyNr v s).drum = s.drum := rfl
@[simp] theorem withAnyNr_deck (v : Word) : (withAnyNr v s).deck = s.deck := rfl
@[simp] theorem withAnyNr_fault (v : Word) : (withAnyNr v s).fault = s.fault := rfl
@[simp] theorem withAnyNr_mtcPending (v : Word) : (withAnyNr v s).mtcPending = s.mtcPending := rfl
@[simp] theorem withAnyNr_inputs (v : Word) : (withAnyNr v s).inputs = s.inputs := rfl
@[simp] theorem withAnyNr_breakpoints (v : Word) : (withAnyNr v s).breakpoints = s.breakpoints := rfl
@[simp] theorem withAnyNr_trace (v : Word) : (withAnyNr v s).trace = s.trace := rfl
@[simp] theorem withAnyNr_draws (v : Word) : (withAnyNr v s).draws = s.draws + 1 := rfl
@[simp] theorem withAnyNr_params (v : Word) : (withAnyNr v s).params = s.params := rfl

/-! ### withProduct -/

@[simp] theorem withProduct_a (x : Word) (p : Int × Int) : (withProduct x p s).a = BitVec.ofInt 40 p.1 := rfl
@[simp] theorem withProduct_mq (x : Word) (p : Int × Int) : (withProduct x p s).mq = BitVec.ofInt 40 p.2 := rfl
@[simp] theorem withProduct_nr (x : Word) (p : Int × Int) : (withProduct x p s).nr = x := rfl
@[simp] theorem withProduct_ir (x : Word) (p : Int × Int) : (withProduct x p s).ir = s.ir := rfl
@[simp] theorem withProduct_nir (x : Word) (p : Int × Int) : (withProduct x p s).nir = s.nir := rfl
@[simp] theorem withProduct_ov (x : Word) (p : Int × Int) : (withProduct x p s).ov = s.ov := rfl
@[simp] theorem withProduct_cc (x : Word) (p : Int × Int) : (withProduct x p s).cc = s.cc := rfl
@[simp] theorem withProduct_halted (x : Word) (p : Int × Int) : (withProduct x p s).halted = s.halted := rfl
@[simp] theorem withProduct_devsel (x : Word) (p : Int × Int) : (withProduct x p s).devsel = s.devsel := rfl
@[simp] theorem withProduct_mem (x : Word) (p : Int × Int) : (withProduct x p s).mem = s.mem := rfl
@[simp] theorem withProduct_drum (x : Word) (p : Int × Int) : (withProduct x p s).drum = s.drum := rfl
@[simp] theorem withProduct_deck (x : Word) (p : Int × Int) : (withProduct x p s).deck = s.deck := rfl
@[simp] theorem withProduct_fault (x : Word) (p : Int × Int) : (withProduct x p s).fault = s.fault := rfl
@[simp] theorem withProduct_mtcPending (x : Word) (p : Int × Int) : (withProduct x p s).mtcPending = s.mtcPending := rfl
@[simp] theorem withProduct_inputs (x : Word) (p : Int × Int) : (withProduct x p s).inputs = s.inputs := rfl
@[simp] theorem withProduct_breakpoints (x : Word) (p : Int × Int) : (withProduct x p s).breakpoints = s.breakpoints := rfl
@[simp] theorem withProduct_trace (x : Word) (p : Int × Int) : (withProduct x p s).trace = s.trace := rfl
@[simp] theorem withProduct_draws (x : Word) (p : Int × Int) : (withProduct x p s).draws = s.draws := rfl
@[simp] theorem withProduct_params (x : Word) (p : Int × Int) : (withProduct x p s).params = s.params := rfl

/-! ### jumpTo -/

@[simp] theorem jumpTo_a (addr : Addr) (h : Half) : (jumpTo addr h s).a = s.a := rfl
@[simp] theorem jumpTo_mq (addr : Addr) (h : Half) : (jumpTo addr h s).mq = s.mq := rfl
@[simp] theorem jumpTo_nr (addr : Addr) (h : Half) : (jumpTo addr h s).nr = s.nr := rfl
@[simp] theorem jumpTo_ir (addr : Addr) (h : Half) : (jumpTo addr h s).ir = s.ir := rfl
@[simp] theorem jumpTo_nir (addr : Addr) (h : Half) : (jumpTo addr h s).nir = addr := rfl
@[simp] theorem jumpTo_ov (addr : Addr) (h : Half) : (jumpTo addr h s).ov = s.ov := rfl
@[simp] theorem jumpTo_cc (addr : Addr) (h : Half) : (jumpTo addr h s).cc = h := rfl
@[simp] theorem jumpTo_halted (addr : Addr) (h : Half) : (jumpTo addr h s).halted = s.halted := rfl
@[simp] theorem jumpTo_devsel (addr : Addr) (h : Half) : (jumpTo addr h s).devsel = s.devsel := rfl
@[simp] theorem jumpTo_mem (addr : Addr) (h : Half) : (jumpTo addr h s).mem = s.mem := rfl
@[simp] theorem jumpTo_drum (addr : Addr) (h : Half) : (jumpTo addr h s).drum = s.drum := rfl
@[simp] theorem jumpTo_deck (addr : Addr) (h : Half) : (jumpTo addr h s).deck = s.deck := rfl
@[simp] theorem jumpTo_fault (addr : Addr) (h : Half) : (jumpTo addr h s).fault = s.fault := rfl
@[simp] theorem jumpTo_mtcPending (addr : Addr) (h : Half) : (jumpTo addr h s).mtcPending = s.mtcPending := rfl
@[simp] theorem jumpTo_inputs (addr : Addr) (h : Half) : (jumpTo addr h s).inputs = s.inputs := rfl
@[simp] theorem jumpTo_breakpoints (addr : Addr) (h : Half) : (jumpTo addr h s).breakpoints = s.breakpoints := rfl
@[simp] theorem jumpTo_trace (addr : Addr) (h : Half) : (jumpTo addr h s).trace = s.trace := rfl
@[simp] theorem jumpTo_draws (addr : Addr) (h : Half) : (jumpTo addr h s).draws = s.draws := rfl
@[simp] theorem jumpTo_params (addr : Addr) (h : Half) : (jumpTo addr h s).params = s.params := rfl

/-! ### recordFault -/

@[simp] theorem recordFault_a (f : FaultKind) : (recordFault f s).a = s.a := rfl
@[simp] theorem recordFault_mq (f : FaultKind) : (recordFault f s).mq = s.mq := rfl
@[simp] theorem recordFault_nr (f : FaultKind) : (recordFault f s).nr = s.nr := rfl
@[simp] theorem recordFault_ir (f : FaultKind) : (recordFault f s).ir = s.ir := rfl
@[simp] theorem recordFault_nir (f : FaultKind) : (recordFault f s).nir = s.nir := rfl
@[simp] theorem recordFault_ov (f : FaultKind) : (recordFault f s).ov = s.ov := rfl
@[simp] theorem recordFault_cc (f : FaultKind) : (recordFault f s).cc = s.cc := rfl
@[simp] theorem recordFault_halted (f : FaultKind) : (recordFault f s).halted = s.halted := rfl
@[simp] theorem recordFault_devsel (f : FaultKind) : (recordFault f s).devsel = s.devsel := rfl
@[simp] theorem recordFault_mem (f : FaultKind) : (recordFault f s).mem = s.mem := rfl
@[simp] theorem recordFault_drum (f : FaultKind) : (recordFault f s).drum = s.drum := rfl
@[simp] theorem recordFault_deck (f : FaultKind) : (recordFault f s).deck = s.deck := rfl
@[simp] theorem recordFault_fault (f : FaultKind) : (recordFault f s).fault = some ⟨f, s.nir, s.cc⟩ := rfl
@[simp] theorem recordFault_mtcPending (f : FaultKind) : (recordFault f s).mtcPending = s.mtcPending := rfl
@[simp] theorem recordFault_inputs (f : FaultKind) : (recordFault f s).inputs = s.inputs := rfl
@[simp] theorem recordFault_breakpoints (f : FaultKind) : (recordFault f s).breakpoints = s.breakpoints := rfl
@[simp] theorem recordFault_trace (f : FaultKind) : (recordFault f s).trace = s.trace := rfl
@[simp] theorem recordFault_draws (f : FaultKind) : (recordFault f s).draws = s.draws := rfl
@[simp] theorem recordFault_params (f : FaultKind) : (recordFault f s).params = s.params := rfl

/-! ### clearA -/

@[simp] theorem clearA_a : (clearA s).a = 0 := rfl
@[simp] theorem clearA_mq : (clearA s).mq = s.mq := rfl
@[simp] theorem clearA_nr : (clearA s).nr = s.nr := rfl
@[simp] theorem clearA_ir : (clearA s).ir = s.ir := rfl
@[simp] theorem clearA_nir : (clearA s).nir = s.nir := rfl
@[simp] theorem clearA_ov : (clearA s).ov = s.ov := rfl
@[simp] theorem clearA_cc : (clearA s).cc = s.cc := rfl
@[simp] theorem clearA_halted : (clearA s).halted = s.halted := rfl
@[simp] theorem clearA_devsel : (clearA s).devsel = s.devsel := rfl
@[simp] theorem clearA_mem : (clearA s).mem = s.mem := rfl
@[simp] theorem clearA_drum : (clearA s).drum = s.drum := rfl
@[simp] theorem clearA_deck : (clearA s).deck = s.deck := rfl
@[simp] theorem clearA_fault : (clearA s).fault = s.fault := rfl
@[simp] theorem clearA_mtcPending : (clearA s).mtcPending = s.mtcPending := rfl
@[simp] theorem clearA_inputs : (clearA s).inputs = s.inputs := rfl
@[simp] theorem clearA_breakpoints : (clearA s).breakpoints = s.breakpoints := rfl
@[simp] theorem clearA_trace : (clearA s).trace = s.trace := rfl
@[simp] theorem clearA_draws : (clearA s).draws = s.draws := rfl
@[simp] theorem clearA_params : (clearA s).params = s.params := rfl

/-! ### clearMq -/

@[simp] theorem clearMq_a : (clearMq s).a = s.a := rfl
@[simp] theorem clearMq_mq : (clearMq s).mq = 0 := rfl
@[simp] theorem clearMq_nr : (clearMq s).nr = s.nr := rfl
@[simp] theorem clearMq_ir : (clearMq s).ir = s.ir := rfl
@[simp] theorem clearMq_nir : (clearMq s).nir = s.nir := rfl
@[simp] theorem clearMq_ov : (clearMq s).ov = s.ov := rfl
@[simp] theorem clearMq_cc : (clearMq s).cc = s.cc := rfl
@[simp] theorem clearMq_halted : (clearMq s).halted = s.halted := rfl
@[simp] theorem clearMq_devsel : (clearMq s).devsel = s.devsel := rfl
@[simp] theorem clearMq_mem : (clearMq s).mem = s.mem := rfl
@[simp] theorem clearMq_drum : (clearMq s).drum = s.drum := rfl
@[simp] theorem clearMq_deck : (clearMq s).deck = s.deck := rfl
@[simp] theorem clearMq_fault : (clearMq s).fault = s.fault := rfl
@[simp] theorem clearMq_mtcPending : (clearMq s).mtcPending = s.mtcPending := rfl
@[simp] theorem clearMq_inputs : (clearMq s).inputs = s.inputs := rfl
@[simp] theorem clearMq_breakpoints : (clearMq s).breakpoints = s.breakpoints := rfl
@[simp] theorem clearMq_trace : (clearMq s).trace = s.trace := rfl
@[simp] theorem clearMq_draws : (clearMq s).draws = s.draws := rfl
@[simp] theorem clearMq_params : (clearMq s).params = s.params := rfl

/-! ### setPair -/

@[simp] theorem setPair_a (p : Pair) : (setPair p s).a = p.a := rfl
@[simp] theorem setPair_mq (p : Pair) : (setPair p s).mq = p.mq := rfl
@[simp] theorem setPair_nr (p : Pair) : (setPair p s).nr = s.nr := rfl
@[simp] theorem setPair_ir (p : Pair) : (setPair p s).ir = s.ir := rfl
@[simp] theorem setPair_nir (p : Pair) : (setPair p s).nir = s.nir := rfl
@[simp] theorem setPair_ov (p : Pair) : (setPair p s).ov = s.ov := rfl
@[simp] theorem setPair_cc (p : Pair) : (setPair p s).cc = s.cc := rfl
@[simp] theorem setPair_halted (p : Pair) : (setPair p s).halted = s.halted := rfl
@[simp] theorem setPair_devsel (p : Pair) : (setPair p s).devsel = s.devsel := rfl
@[simp] theorem setPair_mem (p : Pair) : (setPair p s).mem = s.mem := rfl
@[simp] theorem setPair_drum (p : Pair) : (setPair p s).drum = s.drum := rfl
@[simp] theorem setPair_deck (p : Pair) : (setPair p s).deck = s.deck := rfl
@[simp] theorem setPair_fault (p : Pair) : (setPair p s).fault = s.fault := rfl
@[simp] theorem setPair_mtcPending (p : Pair) : (setPair p s).mtcPending = s.mtcPending := rfl
@[simp] theorem setPair_inputs (p : Pair) : (setPair p s).inputs = s.inputs := rfl
@[simp] theorem setPair_breakpoints (p : Pair) : (setPair p s).breakpoints = s.breakpoints := rfl
@[simp] theorem setPair_trace (p : Pair) : (setPair p s).trace = s.trace := rfl
@[simp] theorem setPair_draws (p : Pair) : (setPair p s).draws = s.draws := rfl
@[simp] theorem setPair_params (p : Pair) : (setPair p s).params = s.params := rfl

/-! ### loadIr -/

@[simp] theorem loadIr_a (w : Word) : (loadIr w s).a = s.a := rfl
@[simp] theorem loadIr_mq (w : Word) : (loadIr w s).mq = s.mq := rfl
@[simp] theorem loadIr_nr (w : Word) : (loadIr w s).nr = s.nr := rfl
@[simp] theorem loadIr_ir (w : Word) : (loadIr w s).ir = w := rfl
@[simp] theorem loadIr_nir (w : Word) : (loadIr w s).nir = s.nir := rfl
@[simp] theorem loadIr_ov (w : Word) : (loadIr w s).ov = s.ov := rfl
@[simp] theorem loadIr_cc (w : Word) : (loadIr w s).cc = s.cc := rfl
@[simp] theorem loadIr_halted (w : Word) : (loadIr w s).halted = s.halted := rfl
@[simp] theorem loadIr_devsel (w : Word) : (loadIr w s).devsel = s.devsel := rfl
@[simp] theorem loadIr_mem (w : Word) : (loadIr w s).mem = s.mem := rfl
@[simp] theorem loadIr_drum (w : Word) : (loadIr w s).drum = s.drum := rfl
@[simp] theorem loadIr_deck (w : Word) : (loadIr w s).deck = s.deck := rfl
@[simp] theorem loadIr_fault (w : Word) : (loadIr w s).fault = s.fault := rfl
@[simp] theorem loadIr_mtcPending (w : Word) : (loadIr w s).mtcPending = s.mtcPending := rfl
@[simp] theorem loadIr_inputs (w : Word) : (loadIr w s).inputs = s.inputs := rfl
@[simp] theorem loadIr_breakpoints (w : Word) : (loadIr w s).breakpoints = s.breakpoints := rfl
@[simp] theorem loadIr_trace (w : Word) : (loadIr w s).trace = s.trace := rfl
@[simp] theorem loadIr_draws (w : Word) : (loadIr w s).draws = s.draws := rfl
@[simp] theorem loadIr_params (w : Word) : (loadIr w s).params = s.params := rfl

/-! ### awaitGo -/

@[simp] theorem awaitGo_a : (awaitGo s).a = s.a := rfl
@[simp] theorem awaitGo_mq : (awaitGo s).mq = s.mq := rfl
@[simp] theorem awaitGo_nr : (awaitGo s).nr = s.nr := rfl
@[simp] theorem awaitGo_ir : (awaitGo s).ir = s.ir := rfl
@[simp] theorem awaitGo_nir : (awaitGo s).nir = s.nir := rfl
@[simp] theorem awaitGo_ov : (awaitGo s).ov = s.ov := rfl
@[simp] theorem awaitGo_cc : (awaitGo s).cc = s.cc := rfl
@[simp] theorem awaitGo_halted : (awaitGo s).halted = !switchValue .go s := rfl
@[simp] theorem awaitGo_devsel : (awaitGo s).devsel = s.devsel := rfl
@[simp] theorem awaitGo_mem : (awaitGo s).mem = s.mem := rfl
@[simp] theorem awaitGo_drum : (awaitGo s).drum = s.drum := rfl
@[simp] theorem awaitGo_deck : (awaitGo s).deck = s.deck := rfl
@[simp] theorem awaitGo_fault : (awaitGo s).fault = s.fault := rfl
@[simp] theorem awaitGo_mtcPending : (awaitGo s).mtcPending = s.mtcPending := rfl
@[simp] theorem awaitGo_inputs : (awaitGo s).inputs = s.inputs := rfl
@[simp] theorem awaitGo_breakpoints : (awaitGo s).breakpoints = s.breakpoints := rfl
@[simp] theorem awaitGo_trace : (awaitGo s).trace = s.trace := rfl
@[simp] theorem awaitGo_draws : (awaitGo s).draws = s.draws + 1 := rfl
@[simp] theorem awaitGo_params : (awaitGo s).params = s.params := rfl

/-! ### addCore -/

@[simp] theorem addCore_a (x : Word) (sub : Bool) : (addCore x sub s).a = s.a + (if sub then comp x else x) := rfl
@[simp] theorem addCore_mq (x : Word) (sub : Bool) : (addCore x sub s).mq = s.mq := rfl
@[simp] theorem addCore_nr (x : Word) (sub : Bool) : (addCore x sub s).nr = x := rfl
@[simp] theorem addCore_ir (x : Word) (sub : Bool) : (addCore x sub s).ir = s.ir := rfl
@[simp] theorem addCore_nir (x : Word) (sub : Bool) : (addCore x sub s).nir = s.nir := rfl
@[simp] theorem addCore_ov (x : Word) (sub : Bool) : (addCore x sub s).ov = (s.ov || hasOverflow s.a x (s.a + (if sub then comp x else x)) sub) := rfl
@[simp] theorem addCore_cc (x : Word) (sub : Bool) : (addCore x sub s).cc = s.cc := rfl
@[simp] theorem addCore_halted (x : Word) (sub : Bool) : (addCore x sub s).halted = s.halted := rfl
@[simp] theorem addCore_devsel (x : Word) (sub : Bool) : (addCore x sub s).devsel = s.devsel := rfl
@[simp] theorem addCore_mem (x : Word) (sub : Bool) : (addCore x sub s).mem = s.mem := rfl
@[simp] theorem addCore_drum (x : Word) (sub : Bool) : (addCore x sub s).drum = s.drum := rfl
@[simp] theorem addCore_deck (x : Word) (sub : Bool) : (addCore x sub s).deck = s.deck := rfl
@[simp] theorem addCore_fault (x : Word) (sub : Bool) : (addCore x sub s).fault = s.fault := rfl
@[simp] theorem addCore_mtcPending (x : Word) (sub : Bool) : (addCore x sub s).mtcPending = s.mtcPending := rfl
@[simp] theorem addCore_inputs (x : Word) (sub : Bool) : (addCore x sub s).inputs = s.inputs := rfl
@[simp] theorem addCore_breakpoints (x : Word) (sub : Bool) : (addCore x sub s).breakpoints = s.breakpoints := rfl
@[simp] theorem addCore_trace (x : Word) (sub : Bool) : (addCore x sub s).trace = s.trace := rfl
@[simp] theorem addCore_draws (x : Word) (sub : Bool) : (addCore x sub s).draws = s.draws := rfl
@[simp] theorem addCore_params (x : Word) (sub : Bool) : (addCore x sub s).params = s.params := rfl

/-! ### mulCore -/

@[simp] theorem mulCore_a (neg : Bool) (x : Word) : (mulCore neg x s).a = (multiply neg x ⟨s.a, s.mq⟩).a := rfl
@[simp] theorem mulCore_mq (neg : Bool) (x : Word) : (mulCore neg x s).mq = (multiply neg x ⟨s.a, s.mq⟩).mq := rfl
@[simp] theorem mulCore_nr (neg : Bool) (x : Word) : (mulCore neg x s).nr = x := rfl
@[simp] theorem mulCore_ir (neg : Bool) (x : Word) : (mulCore neg x s).ir = s.ir := rfl
@[simp] theorem mulCore_nir (neg : Bool) (x : Word) : (mulCore neg x s).nir = s.nir := rfl
@[simp] theorem mulCore_ov (neg : Bool) (x : Word) : (mulCore neg x s).ov = s.ov := rfl
@[simp] theorem mulCore_cc (neg : Bool) (x : Word) : (mulCore neg x s).cc = s.cc := rfl
@[simp] theorem mulCore_halted (neg : Bool) (x : Word) : (mulCore neg x s).halted = s.halted := rfl
@[simp] theorem mulCore_devsel (neg : Bool) (x : Word) : (mulCore neg x s).devsel = s.devsel := rfl
@[simp] theorem mulCore_mem (neg : Bool) (x : Word) : (mulCore neg x s).mem = s.mem := rfl
@[simp] theorem mulCore_drum (neg : Bool) (x : Word) : (mulCore neg x s).drum = s.drum := rfl
@[simp] theorem mulCore_deck (neg : Bool) (x : Word) : (mulCore neg x s).deck = s.deck := rfl
@[simp] theorem mulCore_fault (neg : Bool) (x : Word) : (mulCore neg x s).fault = s.fault := rfl
@[simp] theorem mulCore_mtcPending (neg : Bool) (x : Word) : (mulCore neg x s).mtcPending = s.mtcPending := rfl
@[simp] theorem mulCore_inputs (neg : Bool) (x : Word) : (mulCore neg x s).inputs = s.inputs := rfl
@[simp] theorem mulCore_breakpoints (neg : Bool) (x : Word) : (mulCore neg x s).breakpoints = s.breakpoints := rfl
@[simp] theorem mulCore_trace (neg : Bool) (x : Word) : (mulCore neg x s).trace = s.trace := rfl
@[simp] theorem mulCore_draws (neg : Bool) (x : Word) : (mulCore neg x s).draws = s.draws := rfl
@[simp] theorem mulCore_params (neg : Bool) (x : Word) : (mulCore neg x s).params = s.params := rfl

/-! ### divCore -/

@[simp] theorem divCore_a (neg : Bool) (x : Word) : (divCore neg x s).a = (divide neg x ⟨s.a, s.mq⟩).a := rfl
@[simp] theorem divCore_mq (neg : Bool) (x : Word) : (divCore neg x s).mq = (divide neg x ⟨s.a, s.mq⟩).mq := rfl
@[simp] theorem divCore_nr (neg : Bool) (x : Word) : (divCore neg x s).nr = x := rfl
@[simp] theorem divCore_ir (neg : Bool) (x : Word) : (divCore neg x s).ir = s.ir := rfl
@[simp] theorem divCore_nir (neg : Bool) (x : Word) : (divCore neg x s).nir = s.nir := rfl
@[simp] theorem divCore_ov (neg : Bool) (x : Word) : (divCore neg x s).ov = s.ov := rfl
@[simp] theorem divCore_cc (neg : Bool) (x : Word) : (divCore neg x s).cc = s.cc := rfl
@[simp] theorem divCore_halted (neg : Bool) (x : Word) : (divCore neg x s).halted = s.halted := rfl
@[simp] theorem divCore_devsel (neg : Bool) (x : Word) : (divCore neg x s).devsel = s.devsel := rfl
@[simp] theorem divCore_mem (neg : Bool) (x : Word) : (divCore neg x s).mem = s.mem := rfl
@[simp] theorem divCore_drum (neg : Bool) (x : Word) : (divCore neg x s).drum = s.drum := rfl
@[simp] theorem divCore_deck (neg : Bool) (x : Word) : (divCore neg x s).deck = s.deck := rfl
@[simp] theorem divCore_fault (neg : Bool) (x : Word) : (divCore neg x s).fault = s.fault := rfl
@[simp] theorem divCore_mtcPending (neg : Bool) (x : Word) : (divCore neg x s).mtcPending = s.mtcPending := rfl
@[simp] theorem divCore_inputs (neg : Bool) (x : Word) : (divCore neg x s).inputs = s.inputs := rfl
@[simp] theorem divCore_breakpoints (neg : Bool) (x : Word) : (divCore neg x s).breakpoints = s.breakpoints := rfl
@[simp] theorem divCore_trace (neg : Bool) (x : Word) : (divCore neg x s).trace = s.trace := rfl
@[simp] theorem divCore_draws (neg : Bool) (x : Word) : (divCore neg x s).draws = s.draws := rfl
@[simp] theorem divCore_params (neg : Bool) (x : Word) : (divCore neg x s).params = s.params := rfl

/-! ### shiftBy -/

@[simp] theorem shiftBy_a (f : Pair → Pair) (addr : Addr) : (shiftBy f addr s).a = (repeatStep f addr.toNat ⟨s.a, s.mq⟩).a := rfl
@[simp] theorem shiftBy_mq (f : Pair → Pair) (addr : Addr) : (shiftBy f addr s).mq = (repeatStep f addr.toNat ⟨s.a, s.mq⟩).mq := rfl
@[simp] theorem shiftBy_nr (f : Pair → Pair) (addr : Addr) : (shiftBy f addr s).nr = s.nr := rfl
@[simp] theorem shiftBy_ir (f : Pair → Pair) (addr : Addr) : (shiftBy f addr s).ir = s.ir := rfl
@[simp] theorem shiftBy_nir (f : Pair → Pair) (addr : Addr) : (shiftBy f addr s).nir = s.nir := rfl
@[simp] theorem shiftBy_ov (f : Pair → Pair) (addr : Addr) : (shiftBy f addr s).ov = s.ov := rfl
@[simp] theorem shiftBy_cc (f : Pair → Pair) (addr : Addr) : (shiftBy f addr s).cc = s.cc := rfl
@[simp] theorem shiftBy_halted (f : Pair → Pair) (addr : Addr) : (shiftBy f addr s).halted = s.halted := rfl
@[simp] theorem shiftBy_devsel (f : Pair → Pair) (addr : Addr) : (shiftBy f addr s).devsel = s.devsel := rfl
@[simp] theorem shiftBy_mem (f : Pair → Pair) (addr : Addr) : (shiftBy f addr s).mem = s.mem := rfl
@[simp] theorem shiftBy_drum (f : Pair → Pair) (addr : Addr) : (shiftBy f addr s).drum = s.drum := rfl
@[simp] theorem shiftBy_deck (f : Pair → Pair) (addr : Addr) : (shiftBy f addr s).deck = s.deck := rfl
@[simp] theorem shiftBy_fault (f : Pair → Pair) (addr : Addr) : (shiftBy f addr s).fault = s.fault := rfl
@[simp] theorem shiftBy_mtcPending (f : Pair → Pair) (addr : Addr) : (shiftBy f addr s).mtcPending = s.mtcPending := rfl
@[simp] theorem shiftBy_inputs (f : Pair → Pair) (addr : Addr) : (shiftBy f addr s).inputs = s.inputs := rfl
@[simp] theorem shiftBy_breakpoints (f : Pair → Pair) (addr : Addr) : (shiftBy f addr s).breakpoints = s.breakpoints := rfl
@[simp] theorem shiftBy_trace (f : Pair → Pair) (addr : Addr) : (shiftBy f addr s).trace = s.trace := rfl
@[simp] theorem shiftBy_draws (f : Pair → Pair) (addr : Addr) : (shiftBy f addr s).draws = s.draws := rfl
@[simp] theorem shiftBy_params (f : Pair → Pair) (addr : Addr) : (shiftBy f addr s).params = s.params := rfl

/-! ### copySignOver -/

@[simp] theorem copySignOver_a : (copySignOver s).a = s.a := rfl
@[simp] theorem copySignOver_mq : (copySignOver s).mq = withSign s.mq (sign s.a) := rfl
@[simp] theorem copySignOver_nr : (copySignOver s).nr = s.nr := rfl
@[simp] theorem copySignOver_ir : (copySignOver s).ir = s.ir := rfl
@[simp] theorem copySignOver_nir : (copySignOver s).nir = s.nir := rfl
@[simp] theorem copySignOver_ov : (copySignOver s).ov = s.ov := rfl
@[simp] theorem copySignOver_cc : (copySignOver s).cc = s.cc := rfl
@[simp] theorem copySignOver_halted : (copySignOver s).halted = s.halted := rfl
@[simp] theorem copySignOver_devsel : (copySignOver s).devsel = s.devsel := rfl
@[simp] theorem copySignOver_mem : (copySignOver s).mem = s.mem := rfl
@[simp] theorem copySignOver_drum : (copySignOver s).drum = s.drum := rfl
@[simp] theorem copySignOver_deck : (copySignOver s).deck = s.deck := rfl
@[simp] theorem copySignOver_fault : (copySignOver s).fault = s.fault := rfl
@[simp] theorem copySignOver_mtcPending : (copySignOver s).mtcPending = s.mtcPending := rfl
@[simp] theorem copySignOver_inputs : (copySignOver s).inputs = s.inputs := rfl
@[simp] theorem copySignOver_breakpoints : (copySignOver s).breakpoints = s.breakpoints := rfl
@[simp] theorem copySignOver_trace : (copySignOver s).trace = s.trace := rfl
@[simp] theorem copySignOver_draws : (copySignOver s).draws = s.draws := rfl
@[simp] theorem copySignOver_params : (copySignOver s).params = s.params := rfl

/-! ### advance -/

@[simp] theorem advance_a : (advance s).a = s.a := by
  unfold advance; split <;> rfl
@[simp] theorem advance_mq : (advance s).mq = s.mq := by
  unfold advance; split <;> rfl
@[simp] theorem advance_nr : (advance s).nr = s.nr := by
  unfold advance; split <;> rfl
@[simp] theorem advance_ir : (advance s).ir = s.ir := by
  unfold advance; split <;> rfl
@[simp] theorem advance_ov : (advance s).ov = s.ov := by
  unfold advance; split <;> rfl
@[simp] theorem advance_halted : (advance s).halted = s.halted := by
  unfold advance; split <;> rfl
@[simp] theorem advance_devsel : (advance s).devsel = s.devsel := by
  unfold advance; split <;> rfl
@[simp] theorem advance_mem : (advance s).mem = s.mem := by
  unfold advance; split <;> rfl
@[simp] theorem advance_drum : (advance s).drum = s.drum := by
  unfold advance; split <;> rfl
@[simp] theorem advance_deck : (advance s).deck = s.deck := by
  unfold advance; split <;> rfl
@[simp] theorem advance_fault : (advance s).fault = s.fault := by
  unfold advance; split <;> rfl
@[simp] theorem advance_mtcPending : (advance s).mtcPending = s.mtcPending := by
  unfold advance; split <;> rfl
@[simp] theorem advance_inputs : (advance s).inputs = s.inputs := by
  unfold advance; split <;> rfl
@[simp] theorem advance_breakpoints : (advance s).breakpoints = s.breakpoints := by
  unfold advance; split <;> rfl
@[simp] theorem advance_trace : (advance s).trace = s.trace := by
  unfold advance; split <;> rfl
@[simp] theorem advance_draws : (advance s).draws = s.draws := by
  unfold advance; split <;> rfl
@[simp] theorem advance_params : (advance s).params = s.params := by
  unfold advance; split <;> rfl

/-- The advance as a record update of the program counter alone (rule R203). -/
theorem advance_eq : advance s = { s with nir := (advance s).nir, cc := (advance s).cc } := by
  unfold advance; split <;> rfl

theorem advance_from_left (h : s.cc = .left) : advance s = { s with cc := .right } := by
  simp [advance, h]

theorem advance_from_right (h : s.cc = .right) :
    advance s = { s with nir := s.nir + 1, cc := .left } := by
  simp [advance, h]

end Sys2Proof.Machine
end

