-- ==== Sys2Proof/Laws/Store.lean ====
section
/-! SUPPORT. The laws of the word stores: read after write, and that every memory and drum operation keeps the canonical form. -/

namespace Sys2Proof.Machine

/-! ### Read after write -/

@[simp] theorem storePeek_storePut_same (key : Nat) (v : Word) (m : Store) :
    storePeek (storePut key v m) key = some v := by
  induction m with
  | nil => simp [storePut, storePeek]
  | cons c rest ih =>
    obtain ⟨k, w⟩ := c
    unfold storePut
    split
    · simp [storePeek]
    · split
      · simp [storePeek]
      · rename_i h
        simp [storePeek, Ne.symm h, ih]

theorem storePeek_storePut_other {key other : Nat} (h : other ≠ key) (v : Word) (m : Store) :
    storePeek (storePut key v m) other = storePeek m other := by
  induction m with
  | nil => simp [storePut, storePeek, Ne.symm h]
  | cons c rest ih =>
    obtain ⟨k, w⟩ := c
    unfold storePut
    split
    · simp [storePeek, Ne.symm h]
    · split
      · rename_i hk
        subst hk
        simp [storePeek, Ne.symm h]
      · simp [storePeek, ih]

/-! ### The canonical form -/

theorem risesFrom_of_le {low low' bound : Nat} (h : low' ≤ low) {m : Store}
    (hm : Store.risesFrom low bound m = true) : Store.risesFrom low' bound m = true := by
  cases m with
  | nil => rfl
  | cons c rest =>
    obtain ⟨k, w⟩ := c
    simp only [Store.risesFrom, Bool.and_eq_true, decide_eq_true_eq] at hm ⊢
    exact ⟨⟨by omega, hm.1.2⟩, hm.2⟩

theorem storePut_risesFrom {key low bound : Nat} (hlow : low ≤ key) (hkey : key < bound) (v : Word)
    {m : Store} (hm : Store.risesFrom low bound m = true) :
    Store.risesFrom low bound (storePut key v m) = true := by
  induction m generalizing low with
  | nil => simp [storePut, Store.risesFrom, hlow, hkey]
  | cons c rest ih =>
    obtain ⟨k, w⟩ := c
    simp only [Store.risesFrom, Bool.and_eq_true, decide_eq_true_eq] at hm
    unfold storePut
    split
    · simp only [Store.risesFrom, Bool.and_eq_true, decide_eq_true_eq]
      exact ⟨⟨hlow, hkey⟩, ⟨by omega, hm.1.2⟩, hm.2⟩
    · split
      · rename_i hk
        subst hk
        simp only [Store.risesFrom, Bool.and_eq_true, decide_eq_true_eq]
        exact ⟨⟨hlow, hkey⟩, hm.2⟩
      · simp only [Store.risesFrom, Bool.and_eq_true, decide_eq_true_eq]
        exact ⟨hm.1, ih (by omega) hm.2⟩

theorem storePeek_below {low bound key : Nat} {m : Store}
    (hm : Store.risesFrom low bound m = true) (h : key < low) : storePeek m key = none := by
  induction m generalizing low with
  | nil => rfl
  | cons c rest ih =>
    obtain ⟨k, w⟩ := c
    simp only [Store.risesFrom, Bool.and_eq_true, decide_eq_true_eq] at hm
    have hk : ¬k = key := by omega
    simp only [storePeek, if_neg hk]
    exact ih hm.2 (by omega)

/-- Two canonical stores that read alike at every key are equal: the form is canonical. -/
theorem store_ext {low bound : Nat} {m m' : Store} (hm : Store.risesFrom low bound m = true)
    (hm' : Store.risesFrom low bound m' = true) (h : ∀ key, storePeek m key = storePeek m' key) :
    m = m' := by
  induction m generalizing m' low with
  | nil =>
    cases m' with
    | nil => rfl
    | cons c rest =>
      have := h c.1
      simp [storePeek] at this
  | cons c rest ih =>
    obtain ⟨k, w⟩ := c
    cases m' with
    | nil =>
      have := h k
      simp [storePeek] at this
    | cons c' rest' =>
      obtain ⟨k', w'⟩ := c'
      simp only [Store.risesFrom, Bool.and_eq_true, decide_eq_true_eq] at hm hm'
      have hkk : k = k' := by
        by_contra hne
        rcases Nat.lt_or_gt_of_ne hne with hlt | hlt
        · have := h k
          simp only [storePeek, if_true, if_neg (Ne.symm hne)] at this
          rw [storePeek_below hm'.2 (by omega)] at this
          cases this
        · have := h k'
          simp only [storePeek, if_true, if_neg hne] at this
          rw [storePeek_below hm.2 (by omega)] at this
          cases this
      subst hkk
      have hw := h k
      simp only [storePeek, if_true, Option.some.injEq] at hw
      subst hw
      rw [ih hm.2 hm'.2 fun key => ?_]
      by_cases hkey : k = key
      · subst hkey
        rw [storePeek_below hm.2 (by omega), storePeek_below hm'.2 (by omega)]
      · have := h key
        simpa only [storePeek, if_neg hkey] using this

/-! ### The operations over State -/

theorem drumKey_lt (u : DrumUnit) (addr : Addr) : drumKey u addr < 2 ^ 21 := by
  unfold drumKey
  exact (u.drum ++ u.position ++ u.band ++ addr).isLt

theorem storePut_memory_wf {m : Store} (h : Memory.wf m = true) (addr : Addr) (v : Word) :
    Memory.wf (storePut addr.toNat v m) = true :=
  storePut_risesFrom (Nat.zero_le _) addr.isLt v h

theorem storePut_drum_wf {m : Store} (h : Drum.wf m = true) (u : DrumUnit) (addr : Addr) (v : Word) :
    Drum.wf (storePut (drumKey u addr) v m) = true :=
  storePut_risesFrom (Nat.zero_le _) (drumKey_lt u addr) v h

theorem memWrite_wf {s : State} (h : Memory.wf s.mem = true) (addr : Addr) (v : Word) :
    Memory.wf (memWrite addr v s).mem = true := storePut_memory_wf h addr v

theorem reset_memory_wf : Memory.wf State.reset.mem = true := rfl

theorem reset_drum_wf : Drum.wf State.reset.drum = true := rfl

/-- What a drum write can do: where it answers, the unit is admitted and one drum word is written. -/
theorem drumSet_eq_some {s t : State} {u : DrumUnit} {addr : Addr} {v : Word}
    (h : drumSet s u addr v = some t) :
    drumAdmitted s u = true ∧ t = { s with drum := storePut (drumKey u addr) v s.drum } := by
  unfold drumSet at h
  split at h
  · exact ⟨‹_›, by simpa using h.symm⟩
  · cases h

theorem drumSet_wf {s t : State} {u : DrumUnit} {addr : Addr} {v : Word}
    (hs : Drum.wf s.drum = true) (h : drumSet s u addr v = some t) : Drum.wf t.drum = true := by
  obtain ⟨-, rfl⟩ := drumSet_eq_some h
  exact storePut_drum_wf hs u addr v

/-- RD's loop writes memory alone, and keeps its form; it can fault only where the unit is not admitted. -/
theorem readBlock_cases (u : DrumUnit) (k : Nat) (d a : Addr) (s : State)
    (hs : Memory.wf s.mem = true) :
    (∃ m, readBlock u k d a s = .moved { s with mem := m } ∧ Memory.wf m = true) ∨
    (readBlock u k d a s = .raised (.drumBounds u) s ∧ drumAdmitted s u = false) := by
  induction k generalizing d a s with
  | zero => exact .inl ⟨s.mem, rfl, hs⟩
  | succ k ih =>
    by_cases hu : drumAdmitted s u = true
    · left
      simp only [readBlock, drumGet, if_pos hu]
      rcases ih (d + 1) (a + 1) (memWrite a (drumWord s u d) s) (memWrite_wf hs a _) with
        ⟨m, he, hm⟩ | ⟨-, hf⟩
      · exact ⟨m, he, hm⟩
      · exact absurd (show drumAdmitted s u = false from hf) (by simp [hu])
    · right
      have hu' : drumAdmitted s u = false := by simpa using hu
      exact ⟨by simp [readBlock, drumGet, hu'], hu'⟩

/-- WD's loop writes the drum alone, and keeps its form; it faults at a word it cannot read, or where the unit is not
admitted. -/
theorem writeBlock_cases (u : DrumUnit) (k : Nat) (d a : Addr) (s : State)
    (hs : Drum.wf s.drum = true) :
    ∃ m, Drum.wf m = true ∧
      (writeBlock u k d a s = .moved { s with drum := m } ∨
      (∃ b, writeBlock u k d a s = .raised (.unwrittenRead b) { s with drum := m } ∧
        memRead s b = none) ∨
      (writeBlock u k d a s = .raised (.drumBounds u) { s with drum := m } ∧
        drumAdmitted s u = false)) := by
  induction k generalizing d a s with
  | zero => exact ⟨s.drum, hs, .inl rfl⟩
  | succ k ih =>
    cases hr : memRead s a with
    | none => exact ⟨s.drum, hs, .inr (.inl ⟨a, by simp [writeBlock, hr], hr⟩)⟩
    | some v =>
      by_cases hu : drumAdmitted s u = true
      · obtain ⟨m, hm, he⟩ := ih (d + 1) (a + 1)
          { s with drum := storePut (drumKey u d) v s.drum } (storePut_drum_wf hs u d v)
        refine ⟨m, hm, ?_⟩
        simp only [writeBlock, hr, drumSet, if_pos hu]
        exact he
      · have hu' : drumAdmitted s u = false := by simpa using hu
        exact ⟨s.drum, hs, .inr (.inr ⟨by simp [writeBlock, hr, drumSet, hu'], hu'⟩)⟩

end Sys2Proof.Machine
end

