-- ==== Sys2Proof/Laws/Ops.lean ====
section
/-! SUPPORT. For each shared operation, one lemma that says once everything it can do. -/

namespace Sys2Proof.Machine

/-- A read fails exactly where unwritten reads fault and the cell is unwritten (rule R55). -/
theorem memRead_eq_none {s : State} {addr : Addr} :
    memRead s addr = none ↔
      s.params.unwrittenReadFaults = true ∧ storePeek s.mem addr.toNat = none := by
  unfold memRead
  split <;> rename_i h <;> simp [h]

/-- A read depends on the memory and the parameter alone. -/
theorem memRead_congr {s t : State} (hm : t.mem = s.mem) (hp : t.params = s.params) (addr : Addr) :
    memRead t addr = memRead s addr := by
  simp [memRead, hm, hp]

/-- An operand read either goes on with the word, or records the fault. -/
theorem withOperand_cases (addr : Addr) (s : State) (k : Word → Outcome) :
    (∃ x, memRead s addr = some x ∧ withOperand addr s k = k x) ∨
    (memRead s addr = none ∧
      withOperand addr s k = .next (recordFault (.unwrittenRead addr) s)) := by
  unfold withOperand
  cases memRead s addr with
  | some x => exact .inl ⟨x, rfl, rfl⟩
  | none => exact .inr ⟨rfl, rfl⟩

theorem withOperand_some {addr : Addr} {s : State} {x : Word} (h : memRead s addr = some x)
    (k : Word → Outcome) : withOperand addr s k = k x := by
  simp [withOperand, h]

theorem withOperand_none {addr : Addr} {s : State} (h : memRead s addr = none)
    (k : Word → Outcome) :
    withOperand addr s k = .next (recordFault (.unwrittenRead addr) s) := by
  simp [withOperand, h, raiseFault]

theorem complete_eq (s : State) : complete s = .next (advance s) := rfl

theorem completeSilent_eq (s : State) :
    completeSilent s = .next (advance (withAnyNr (Config.nrDraw s.draws) s)) := rfl

/-- A transfer is taken, or the normal advance is made (rule R230). -/
theorem transferIf_eq (cond : Bool) (addr : Addr) (h : Half) (s : State) :
    transferIf cond addr h s =
      .next (if cond then jumpTo addr h (drawNr s) else advance (drawNr s)) := by
  cases cond <;> rfl

/-- A halt acts, or the normal advance is made (rule R230). -/
theorem haltIf_eq (cond : Bool) (addr : Addr) (h : Half) (s : State) :
    haltIf cond addr h s =
      .next (if cond then jumpTo addr h { drawNr s with halted := true }
        else advance (drawNr s)) := by
  cases cond <;> rfl

/-- A partial store merges and writes back, or records the fault of its read (rule R270). -/
theorem partialStore_cases (m : Word) (addr : Addr) (s : State) :
    (∃ w, memRead s addr = some w ∧
      partialStore m addr s =
        .next (advance (drawNr (memWrite addr (mergeMasked w s.a m) s)))) ∨
    (memRead s addr = none ∧
      partialStore m addr s = .next (recordFault (.unwrittenRead addr) s)) := by
  unfold partialStore
  exact withOperand_cases addr s _

theorem storeA_eq (addr : Addr) (s : State) :
    storeA addr s = .next (advance (memWrite addr s.a s)) := rfl

/-- A block transfer completes, or records the fault of the word it stopped at. -/
theorem finishBlock_eq (e : BlockEnd) :
    finishBlock e = .next (match e with
      | .moved s => advance (drawNr s)
      | .raised f s => recordFault f s) := by
  cases e <;> rfl

/-- A fixed input reads as the launch fixed it (rule R32). -/
theorem switchValue_fixed {sw : HostSwitch} {s : State} {b : Bool}
    (h : inputSource sw s.inputs = .fixed b) : switchValue sw s = b := by
  simp [switchValue, h]

/-- Everything the step of a running machine can do, whatever an instruction does (rule R205). -/
theorem runHalf_cases (run : Instr → State → Outcome) (s : State) :
    (memRead s s.nir = none ∧
      runHalf run s = .next (recordFault (.unwrittenRead s.nir) s)) ∨
    (∃ w i, memRead s s.nir = some w ∧ decodeFetched w s = .instr i ∧
      runHalf run s = run i (loadIr w s)) ∨
    (∃ w op name, memRead s s.nir = some w ∧ decodeFetched w s = .unimplemented op name ∧
      runHalf run s = .next (recordFault (.unimplementedOpcode op name) (loadIr w s))) ∨
    (∃ w op, memRead s s.nir = some w ∧ decodeFetched w s = .unknown op ∧
      runHalf run s = .next (recordFault (.unknownOpcode op) (loadIr w s))) := by
  unfold runHalf
  cases hr : memRead s s.nir with
  | none => exact .inl ⟨rfl, rfl⟩
  | some w =>
    right
    simp only []
    cases hd : decodeFetched w s with
    | instr i => exact .inl ⟨w, i, rfl, hd, rfl⟩
    | unimplemented op name => exact .inr (.inl ⟨w, op, name, rfl, hd, rfl⟩)
    | unknown op => exact .inr (.inr ⟨w, op, rfl, hd, rfl⟩)

/-- Everything sending a request can do: it is outstanding in the next state, and none was before. -/
theorem sendRequest_eq_some {request : MtcRequest} {s t : State} :
    sendRequest request s = some t ↔
      s.mtcPending = none ∧ t = { s with mtcPending := some request } := by
  unfold sendRequest
  cases s.mtcPending <;> simp [eq_comm]

/-- Everything a step that answers a next state can be: the halted machine's, or a running half's. -/
theorem step_next_cases {s t : State} (h : step s = .next t) :
    s.fault = none ∧ s.mtcPending = none ∧
      ((s.halted = true ∧ t = awaitGo s) ∨ (s.halted = false ∧ runHalf exec s = .next t)) := by
  unfold step at h
  cases hf : s.fault with
  | some r => simp [hf] at h
  | none =>
    cases hp : s.mtcPending with
    | some op => simp [hf, hp] at h
    | none =>
      refine ⟨rfl, rfl, ?_⟩
      simp only [hf, hp] at h
      cases hh : s.halted with
      | true => exact .inl ⟨rfl, by simpa [hh] using h.symm⟩
      | false => exact .inr ⟨rfl, by simpa [hh] using h⟩

end Sys2Proof.Machine
end

