-- ==== Sys2Proof/Tests/Slice0.lean ====
section
/-! SUPPORT. Tests of the model's own: expected results are the vectors of spec/95_test_vectors.md and the examples of the rules.
No numeric code is in the spec (decision D1), so the words below are written for a map of the tests' own. -/

namespace Sys2Proof.Machine.Tests

/-! ### A map, a state, and readings of an outcome -/

/-- A lawful opcode map for the tests: row k of the table at code 2k+1, one code unimplemented, the rest unknown. -/
def testClasses : List OpClass :=
  allMnemonics.flatMap (fun x => [OpClass.unknown, OpClass.op x]) ++
    [OpClass.unimplemented "NOT EMULATED", OpClass.unknown, OpClass.unknown, OpClass.unknown]

def testMap : OpcodeMap := ⟨testClasses.toArray, by decide +kernel⟩

/-- A map that gives no mnemonic a code, and one that gives `A` two. -/
def emptyMap : OpcodeMap := Vector.replicate 128 OpClass.unknown
def doubledMap : OpcodeMap := Vector.replicate 128 (OpClass.op .a)

/-- Card feed 3, the default drum, no fault on unwritten reads, every input fixed clear. -/
def base : State :=
  { State.reset with
    params := ⟨testMap, 3, defaultDrumAdmits, false⟩
    inputs := ⟨.fixed false, .fixed false, .fixed false, .fixed false, .fixed false, .fixed false,
      .fixed false⟩ }

/-- The same, with reads of unwritten cells faulting. -/
def strict : State := { base with params := { base.params with unwrittenReadFaults := true } }

/-- Every switch set, and the host calling `go()`. -/
def allSet : HostInputs :=
  ⟨.fixed true, .fixed true, .fixed true, .fixed true, .fixed true, .fixed true, .fixed true⟩

def nextOf : Outcome → Option State
  | .next s => some s
  | _ => none

def a? (o : Outcome) : Option Word := (nextOf o).map State.a
def mq? (o : Outcome) : Option Word := (nextOf o).map State.mq
def nr? (o : Outcome) : Option Word := (nextOf o).map State.nr
def ov? (o : Outcome) : Option Bool := (nextOf o).map State.ov
def pc? (o : Outcome) : Option (Addr × Half) := (nextOf o).map fun s => (s.nir, s.cc)
def fault? (o : Outcome) : Option FaultRecord := (nextOf o).bind State.fault
def word? (addr : Addr) (o : Outcome) : Option Word := (nextOf o).bind fun s => memRead s addr
def refusal? : Outcome → Option Refusal
  | .refused r => some r
  | _ => none

/-! ### Well-formedness: the check refuses an ill-formed term -/

theorem test_lawful_map : testMap.lawful = true := by decide
theorem test_wellFormed : (Instr.ra 1).wellFormed testMap = true := by decide
theorem test_map_without_codes_refused : emptyMap.lawful = false := by decide
theorem test_instr_without_code_refused : (Instr.ra 1).wellFormed emptyMap = false := by decide
theorem test_instr_with_two_codes_refused : (Instr.a 1).wellFormed doubledMap = false := by decide +kernel
theorem test_memory_unsorted_refused : Memory.wf [(2, 0), (1, 0)] = false := by decide
theorem test_memory_outside_refused : Memory.wf [(4096, 0)] = false := by decide
theorem test_drum_outside_refused : Drum.wf [(2 ^ 21, 0)] = false := by decide
theorem test_false_record_refused :
    ({ base with fault := some ⟨.unimplementedDevice 3, 0, .left⟩ } : State).inv = false := by decide

/-! ### Decoding: for each family, halves written out as op (7 bits) and address (12 bits), rules R82 and R80 -/

theorem test_decode_alu :
    [0b0000001_001010011100#19,
     0b0000011_011000101010#19,
     0b0000101_110101000110#19,
     0b0000111_011111110000#19,
     0b0001001_011000101000#19,
     0b0001011_011111101110#19,
     0b0001101_110101000010#19,
     0b0001111_011000100100#19].map (decodeHalf testMap) =
    [.instr (.a 0o1234#12),
     .instr (.s 0o3052#12),
     .instr (.ra 0o6506#12),
     .instr (.rs 0o3760#12),
     .instr (.rsv 0o3050#12),
     .instr (.pi 0o3756#12),
     .instr (.ni 0o6502#12),
     .instr (.lm 0o3044#12)] := by decide

theorem test_decode_muldiv :
    [0b0010001_001010011100#19,
     0b0010011_011000101010#19,
     0b0010101_110101000110#19,
     0b0010111_011111110000#19].map (decodeHalf testMap) =
    [.instr (.m 0o1234#12),
     .instr (.ma 0o3052#12),
     .instr (.d 0o6506#12),
     .instr (.ds 0o3760#12)] := by decide

theorem test_decode_shift :
    [0b0011001_001010011100#19,
     0b0011011_011000101010#19,
     0b0011101_110101000110#19,
     0b0011111_011111110000#19,
     0b0100001_011000101000#19,
     0b0100011_011111101110#19,
     0b0100101_110101000010#19].map (decodeHalf testMap) =
    [.instr (.lrc 0o1234#12),
     .instr (.lrh 0o3052#12),
     .instr (.llh 0o6506#12),
     .instr (.clc 0o3760#12),
     .instr (.clh 0o3050#12),
     .instr (.src 0o3756#12),
     .instr (.srh 0o6502#12)] := by decide

theorem test_decode_transfer :
    [0b0100111_001010011100#19,
     0b0101001_011000101010#19,
     0b0101011_110101000110#19,
     0b0101101_011111110000#19,
     0b0101111_011000101000#19,
     0b0110001_011111101110#19,
     0b0110011_110101000010#19,
     0b0110101_011000100100#19,
     0b0110111_001010010100#19,
     0b0111001_001010010010#19,
     0b0111011_011000011110#19,
     0b0111101_110100111000#19].map (decodeHalf testMap) =
    [.instr (.tnl 0o1234#12),
     .instr (.tnr 0o3052#12),
     .instr (.tpl 0o6506#12),
     .instr (.tpr 0o3760#12),
     .instr (.trl 0o3050#12),
     .instr (.trr 0o3756#12),
     .instr (.t1l 0o6502#12),
     .instr (.t1r 0o3044#12),
     .instr (.t2l 0o1224#12),
     .instr (.t2r 0o1222#12),
     .instr (.t3l 0o3036#12),
     .instr (.t3r 0o6470#12)] := by decide

theorem test_decode_halt :
    [0b0111111_001010011100#19,
     0b1000001_011000101010#19,
     0b1000011_110101000110#19,
     0b1000101_011111110000#19,
     0b1000111_011000101000#19,
     0b1001001_011111101110#19,
     0b1001011_110101000010#19,
     0b1001101_011000100100#19].map (decodeHalf testMap) =
    [.instr (.htl 0o1234#12),
     .instr (.htr 0o3052#12),
     .instr (.h1l 0o6506#12),
     .instr (.h1r 0o3760#12),
     .instr (.h2l 0o3050#12),
     .instr (.h2r 0o3756#12),
     .instr (.h3l 0o6502#12),
     .instr (.h3r 0o3044#12)] := by decide

theorem test_decode_store :
    [0b1001111_001010011100#19,
     0b1010001_011000101010#19,
     0b1010011_110101000110#19,
     0b1010101_011111110000#19,
     0b1010111_011000101000#19,
     0b1011001_011111101110#19,
     0b1011011_110101000010#19,
     0b1011101_011000100100#19,
     0b1011111_001010010100#19].map (decodeHalf testMap) =
    [.instr (.sal 0o1234#12),
     .instr (.sor 0o3052#12),
     .instr (.sar 0o6506#12),
     .instr (.sab 0o3760#12),
     .instr (.stq 0o3050#12),
     .instr (.snq 0o3756#12),
     .instr (.aqs 0o6502#12),
     .instr (.sqs 0o3044#12),
     .instr (.snv 0o1224#12)] := by decide

theorem test_decode_io_drum_clear :
    [0b1100001_001010011100#19,
     0b1100011_011000101010#19,
     0b1100101_110101000110#19,
     0b1100111_011111110000#19,
     0b1101001_011000101000#19,
     0b1101011_011111101110#19,
     0b1101101_110101000010#19,
     0b1101111_011000100100#19].map (decodeHalf testMap) =
    [.instr (.sel 0o1234#12),
     .instr (.c 0o3052#12),
     .instr (.rd 0o6506#12),
     .instr (.wd 0o3760#12),
     .instr (.clear1 0o3050#12),
     .instr (.clear2 0o3756#12),
     .instr (.clear3 0o6502#12),
     .instr (.clear4 0o3044#12)] := by decide

theorem test_decode_typewriter :
    [0b1110001_001010011100#19,
     0b1110011_011000101010#19,
     0b1110101_110101000110#19,
     0b1110111_011111110000#19,
     0b1111001_011000101000#19,
     0b1111011_011111101110#19].map (decodeHalf testMap) =
    [.instr (.writeLineBuffer 0o1234#12),
     .instr (.readLineBuffer 0o3052#12),
     .instr (.writeScr 0o6506#12),
     .instr (.readScr 0o3760#12),
     .instr (.matchScr 0o3050#12),
     .instr (.mismatchScr 0o3756#12)] := by decide

/-- Rule R80: leftOp, leftAddress, two padding bits, rightOp, rightAddress, written out in that order. -/
theorem test_decode_word :
    decodeWord 0b0000101_000000000001_11_1111111_000000001010#40 = ⟨5, 1, 127, 10⟩ := by decide
theorem test_select_left :
    decodeHalf testMap (selectHalf 0b0000101_000000000001_10_0111111_000000001010#40 .left) =
      .instr (.ra 1) := by decide
theorem test_select_right :
    decodeHalf testMap (selectHalf 0b0000101_000000000001_10_0111111_000000001010#40 .right) =
      .instr (.htl 10) := by decide
/-- Rule R93 with the address part of V-L1-1. -/
theorem test_encode_word :
    encodeWord testMap (.ra 1) (.htl 10) =
      BitVec.ofNat 40 (5 <<< 33 ||| 63 <<< 12 ||| 0o00000010000012) := by decide
theorem test_unknown_rejected : decodeHalf testMap 0b0000000_000000000001#19 = .unknown 0 := by decide
theorem test_unimplemented_rejected :
    decodeHalf testMap 0b1111100_000000000001#19 = .unimplemented 124 "NOT EMULATED" := by decide

/-! ### Add, subtract, load, logical (vectors 2.1) -/

theorem test_add_positive_overflow :
    (fun r => (a? r, ov? r)) (exec (.a 1) { base with a := 0x7fffffffff, mem := [(1, 0x1)] }) =
      (some 0x8000000000, some true) := by decide

theorem test_add_carry_no_overflow :
    (fun r => (a? r, ov? r)) (exec (.a 1) { base with a := 0xffffffffff, mem := [(1, 0x1)] }) =
      (some 0x0, some false) := by decide

theorem test_sub_minimum :
    (fun r => (a? r, ov? r)) (exec (.s 1) { base with a := 0x0, mem := [(1, 0x8000000000)] }) =
      (some 0x8000000000, some true) := by decide

theorem test_sub_minimum_from_minus_one :
    (fun r => (a? r, ov? r)) (exec (.s 1) { base with a := 0xffffffffff, mem := [(1, 0x8000000000)] }) =
      (some 0x7fffffffff, some false) := by decide

theorem test_ra_minimum :
    (fun r => (a? r, ov? r)) (exec (.ra 1) { base with a := 0x1ff, mem := [(1, 0x8000000000)] }) =
      (some 0x8000000000, some false) := by decide

theorem test_rs_minimum :
    (fun r => (a? r, ov? r)) (exec (.rs 1) { base with a := 0x1ff, mem := [(1, 0x8000000000)] }) =
      (some 0x8000000000, some true) := by decide

theorem test_rs_five :
    (fun r => (a? r, ov? r)) (exec (.rs 1) { base with a := 0x1ff, mem := [(1, 0x5)] }) =
      (some 0xfffffffffb, some false) := by decide

theorem test_rsv_negative :
    (fun r => (a? r, ov? r)) (exec (.rsv 1) { base with a := 0x1ff, mem := [(1, 0xfffffffffb)] }) =
      (some 0xfffffffffb, some false) := by decide

theorem test_rsv_minimum :
    (fun r => (a? r, ov? r)) (exec (.rsv 1) { base with a := 0x1ff, mem := [(1, 0x8000000000)] }) =
      (some 0x8000000000, some false) := by decide

theorem test_pi_masks :
    (fun r => (a? r, ov? r)) (exec (.pi 1) { base with a := 0xe38, mem := [(1, 0xfc0)] }) =
      (some 0xe00, some false) := by decide

theorem test_ni_masks :
    (fun r => (a? r, ov? r)) (exec (.ni 1) { base with a := 0xe38, mem := [(1, 0xfc0)] }) =
      (some 0x38, some false) := by decide

theorem test_lm_loads :
    (fun r => (a? r, mq? r)) (exec (.lm 1) { base with a := 0x3, mem := [(1, 0x53)] }) = (some 3, some 0o123) := by decide

theorem test_overflow_is_sticky :
    ov? (exec (.a 1) { base with a := 0x5, ov := true, mem := [(1, 0x3)] }) = some true := by decide

/-- Rule R357: an unwritten operand of RA leaves A = 0 (vectors 2.7). -/
theorem test_ra_unwritten :
    (fun r => (a? r, fault? r)) (exec (.ra 50) { strict with a := 7 }) =
      (some 0, some ⟨.unwrittenRead 50, 0, .left⟩) := by decide

/-! ### Multiply and divide (vectors 2.2) -/

theorem test_m_negative :
    (fun r => (a? r, mq? r)) (exec (.m 1) { base with a := 0x9, mq := 0x2, mem := [(1, 0xfffffffffd)] }) =
      (some 0xffffffffff, some 0x7ffffffffa) := by decide +kernel

theorem test_m_outside_domain :
    (fun r => (a? r, mq? r)) (exec (.m 1) { base with a := 0x0, mq := 0x7fffffffff, mem := [(1, 0x7fffffffff)] }) =
      (some 0x2aaaaaaaaa, some 0x1) := by decide +kernel

theorem test_ma_accumulates :
    (fun r => (a? r, mq? r)) (exec (.ma 1) { base with a := 0x7, mq := 0x2, mem := [(1, 0x3)] }) =
      (some 0x0, some 0xd) := by decide +kernel

theorem test_ma_minus_one :
    (fun r => (a? r, mq? r)) (exec (.ma 1) { base with a := 0xffffffffff, mq := 0x1, mem := [(1, 0x1)] }) =
      (some 0x0, some 0x0) := by decide

theorem test_d_inexact :
    (fun r => (a? r, mq? r)) (exec (.d 1) { base with a := 0x0, mq := 0x7, mem := [(1, 0xfffffffffe)] }) =
      (some 0xffffffffff, some 0xfffffffffc) := by decide +kernel

theorem test_d_artifact :
    (fun r => (a? r, mq? r)) (exec (.d 1) { base with a := 0xffffffffff, mq := 0x7ffffffffa, mem := [(1, 0xfffffffffe)] }) =
      (some 0xfffffffffe, some 0x2) := by decide +kernel

theorem test_ds_clears_mq :
    (fun r => (a? r, mq? r)) (exec (.ds 1) { base with a := 0x1, mq := 0x63, mem := [(1, 0x2)] }) =
      (some 0x0, some 0x4000000000) := by decide +kernel

theorem test_ds_artifact :
    (fun r => (a? r, mq? r)) (exec (.ds 1) { base with a := 0x1, mq := 0x5, mem := [(1, 0xfffffffffe)] }) =
      (some 0xfffffffffe, some 0xbfffffffff) := by decide +kernel

theorem test_d_zero_divisor :
    (fun r => (a? r, mq? r)) (exec (.d 1) { base with a := 0x0, mq := 0x5, mem := [(1, 0x0)] }) =
      (some 5, some 0x7fffffffff) := by decide +kernel

/-! ### Shifts (vectors 2.3) -/

theorem test_lrh_sign_fill :
    (fun r => (a? r, mq? r)) (exec (.lrh 1) { base with a := 0x8000000006, mq := 0x0 }) =
      (some 0xc000000003, some 0x8000000000) := by decide

theorem test_lrh_forty :
    (fun r => (a? r, mq? r)) (exec (.lrh 40) { base with a := 0x8000000000, mq := 0x8000000000 }) =
      (some 0xffffffffff, some 0xc000000000) := by decide +kernel

theorem test_lrc_clears :
    (fun r => (a? r, mq? r)) (exec (.lrc 1) { base with a := 0x5, mq := 0xffffffffff }) =
      (some 0x2, some 0x4000000000) := by decide

theorem test_lrc_negative :
    (fun r => (a? r, mq? r)) (exec (.lrc 2) { base with a := 0xfffffffffc, mq := 0x7 }) =
      (some 0xffffffffff, some 0x8000000000) := by decide

theorem test_llh_holds_sign :
    (fun r => (a? r, mq? r)) (exec (.llh 1) { base with a := 0x3, mq := 0xc000000000 }) =
      (some 0x7, some 0x8000000000) := by decide

theorem test_llh_thirty_nine :
    (fun r => (a? r, mq? r)) (exec (.llh 39) { base with a := 0x0, mq := 0x1 }) =
      (some 0x1, some 0x0) := by decide +kernel

theorem test_clh_fifteen :
    (fun r => (a? r, mq? r)) (exec (.clh 15) { base with a := 0xa72ee0a72e, mq := 0x7d63447d63 }) =
      (some 0x7053973eb1, some 0xa23eb1d397) := by decide

theorem test_clh_swap :
    (fun r => (a? r, mq? r)) (exec (.clh 40) { base with a := 0xa72ee0a72e, mq := 0x7d63447d63 }) =
      (some 0x7d63447d63, some 0xa72ee0a72e) := by decide +kernel

theorem test_clc_forty :
    (fun r => (a? r, mq? r)) (exec (.clc 40) { base with a := 0xa72ee0a72e, mq := 0x7d63447d63 }) =
      (some 0x0, some 0xa72ee0a72e) := by decide +kernel

theorem test_clc_one :
    (fun r => (a? r, mq? r)) (exec (.clc 1) { base with a := 0x8000000001, mq := 0x7d63447d63 }) =
      (some 0x2, some 0x1) := by decide

theorem test_srh_zero_fill :
    (fun r => (a? r, mq? r)) (exec (.srh 1) { base with a := 0x8000000003, mq := 0x7d63447d63 }) =
      (some 0x4000000001, some 0x7d63447d63) := by decide

theorem test_srh_forty :
    (fun r => (a? r, mq? r)) (exec (.srh 40) { base with a := 0xffffffffff, mq := 0x7d63447d63 }) =
      (some 0x0, some 0x7d63447d63) := by decide

theorem test_src_clears :
    (fun r => (a? r, mq? r)) (exec (.src 1) { base with a := 0x8000000003, mq := 0x7d63447d63 }) =
      (some 0x4000000001, some 0x0) := by decide

/-! ### Transfers and halts (vectors 2.4) -/

theorem test_tnl_taken : pc? (exec (.tnl 3) { base with nir := 7, a := 0xffffffffff }) = some (3, .left) := by decide

theorem test_tnl_zero : pc? (exec (.tnl 3) { base with nir := 7, a := 0x0 }) = some (7, .right) := by decide

theorem test_tnr_taken : pc? (exec (.tnr 3) { base with nir := 7, a := 0x8000000000 }) = some (3, .right) := by decide

theorem test_tpl_zero : pc? (exec (.tpl 3) { base with nir := 7, a := 0x0 }) = some (3, .left) := by decide

theorem test_tpl_not : pc? (exec (.tpl 3) { base with nir := 7, a := 0x8000000000 }) = some (7, .right) := by decide

theorem test_tpr_taken : pc? (exec (.tpr 4095) { base with nir := 7, a := 0x7fffffffff }) = some (4095, .right) := by decide

theorem test_trl_self : pc? (exec (.trl 7) { base with nir := 7 }) = some (7, .left) := by decide

theorem test_trr : pc? (exec (.trr 100) { base with nir := 7 }) = some (100, .right) := by decide

theorem test_t1l_set : pc? (exec (.t1l 9) { base with nir := 7, inputs := ⟨.fixed true, .fixed false, .fixed false, .fixed false, .fixed false, .fixed false, .fixed false⟩ }) = some (9, .left) := by decide

theorem test_t1r_set : pc? (exec (.t1r 9) { base with nir := 7, inputs := ⟨.fixed true, .fixed false, .fixed false, .fixed false, .fixed false, .fixed false, .fixed false⟩ }) = some (9, .right) := by decide

theorem test_t2l_set : pc? (exec (.t2l 9) { base with nir := 7, inputs := ⟨.fixed false, .fixed true, .fixed false, .fixed false, .fixed false, .fixed false, .fixed false⟩ }) = some (9, .left) := by decide

theorem test_t2r_set : pc? (exec (.t2r 9) { base with nir := 7, inputs := ⟨.fixed false, .fixed true, .fixed false, .fixed false, .fixed false, .fixed false, .fixed false⟩ }) = some (9, .right) := by decide

theorem test_t3l_set : pc? (exec (.t3l 9) { base with nir := 7, inputs := ⟨.fixed false, .fixed false, .fixed true, .fixed false, .fixed false, .fixed false, .fixed false⟩ }) = some (9, .left) := by decide

theorem test_t3r_set : pc? (exec (.t3r 9) { base with nir := 7, inputs := ⟨.fixed false, .fixed false, .fixed true, .fixed false, .fixed false, .fixed false, .fixed false⟩ }) = some (9, .right) := by decide

theorem test_t2l_clear : pc? (exec (.t2l 9) { base with nir := 7 }) = some (7, .right) := by decide

theorem test_htl :
    (fun r => (pc? r, (nextOf r).map State.halted)) (exec (.htl 10) { base with nir := 7 }) =
      (some (10, .left), some true) := by decide

theorem test_htr :
    (fun r => (pc? r, (nextOf r).map State.halted)) (exec (.htr 2) { base with nir := 7 }) =
      (some (2, .right), some true) := by decide

theorem test_h1l_set :
    (fun r => (pc? r, (nextOf r).map State.halted)) (exec (.h1l 5) { base with nir := 7, inputs := ⟨.fixed false, .fixed false, .fixed false, .fixed true, .fixed false, .fixed false, .fixed false⟩ }) =
      (some (5, .left), some true) := by decide

theorem test_h1r_set :
    (fun r => (pc? r, (nextOf r).map State.halted)) (exec (.h1r 5) { base with nir := 7, inputs := ⟨.fixed false, .fixed false, .fixed false, .fixed true, .fixed false, .fixed false, .fixed false⟩ }) =
      (some (5, .right), some true) := by decide

theorem test_h2l_set :
    (fun r => (pc? r, (nextOf r).map State.halted)) (exec (.h2l 5) { base with nir := 7, inputs := ⟨.fixed false, .fixed false, .fixed false, .fixed false, .fixed true, .fixed false, .fixed false⟩ }) =
      (some (5, .left), some true) := by decide

theorem test_h2r_set :
    (fun r => (pc? r, (nextOf r).map State.halted)) (exec (.h2r 5) { base with nir := 7, inputs := ⟨.fixed false, .fixed false, .fixed false, .fixed false, .fixed true, .fixed false, .fixed false⟩ }) =
      (some (5, .right), some true) := by decide

theorem test_h3l_set :
    (fun r => (pc? r, (nextOf r).map State.halted)) (exec (.h3l 5) { base with nir := 7, inputs := ⟨.fixed false, .fixed false, .fixed false, .fixed false, .fixed false, .fixed true, .fixed false⟩ }) =
      (some (5, .left), some true) := by decide

theorem test_h3r_set :
    (fun r => (pc? r, (nextOf r).map State.halted)) (exec (.h3r 5) { base with nir := 7, inputs := ⟨.fixed false, .fixed false, .fixed false, .fixed false, .fixed false, .fixed true, .fixed false⟩ }) =
      (some (5, .right), some true) := by decide

theorem test_h2r_clear :
    (fun r => (pc? r, (nextOf r).map State.halted)) (exec (.h2r 6) { base with nir := 7 }) =
      (some (7, .right), some false) := by decide

/-! ### Stores (vectors 2.5) -/

theorem test_sal :
    word? 50 (exec (.sal 50) { base with a := 0xaaaaaaaaaa, mem := [(50, 0x5555555555)] }) = some 0x54aaa55555 := by decide

theorem test_sor :
    word? 50 (exec (.sor 50) { base with a := 0x0, mem := [(50, 0xffffffffff)] }) = some 0xfffff00fff := by decide

theorem test_sar :
    word? 50 (exec (.sar 50) { base with a := 0xfff29c, mem := [(50, 0x249000)] }) = some 0x24929c := by decide

theorem test_sab :
    word? 50 (exec (.sab 50) { base with a := 0xffffffffff, mem := [(50, 0x0)] }) = some 0x1fff00fff := by decide

theorem test_stq :
    (fun r => (word? 50 r, a? r, ov? r)) (exec (.stq 50) { base with a := 0x63, mq := 0x7 }) =
      (some 0x7, some 0x7, some false) := by decide

theorem test_snq_minimum :
    (fun r => (word? 50 r, a? r, ov? r)) (exec (.snq 50) { base with a := 0x63, mq := 0x8000000000 }) =
      (some 0x8000000000, some 0x8000000000, some true) := by decide

theorem test_aqs_overflow :
    (fun r => (word? 50 r, a? r, ov? r)) (exec (.aqs 50) { base with a := 0x7fffffffff, mq := 0x1 }) =
      (some 0x8000000000, some 0x8000000000, some true) := by decide

theorem test_sqs_overflow :
    (fun r => (word? 50 r, a? r, ov? r)) (exec (.sqs 50) { base with a := 0x8000000000, mq := 0x1 }) =
      (some 0x7fffffffff, some 0x7fffffffff, some true) := by decide

theorem test_sqs :
    (fun r => (word? 50 r, a? r, ov? r)) (exec (.sqs 50) { base with a := 0x5, mq := 0x7 }) =
      (some 0xfffffffffe, some 0xfffffffffe, some false) := by decide

theorem test_snv :
    (fun r => (word? 50 r, a? r, ov? r)) (exec (.snv 50) { base with a := 0x1, mq := 0xfffffffff9 }) =
      (some 0xfffffffff9, some 0xfffffffff9, some false) := by decide

theorem test_snv_minimum :
    (fun r => (word? 50 r, a? r, ov? r)) (exec (.snv 50) { base with a := 0x1, mq := 0x8000000000 }) =
      (some 0x8000000000, some 0x8000000000, some false) := by decide

/-! ### I/O, drum and clear (vectors 2.6) -/

theorem test_sel : (nextOf (exec (.sel 0o25) base)).map State.devsel = some 5 := by decide

theorem test_c_card :
    (fun r => (word? 40 r, a? r, (nextOf r).map State.deck))
      (exec (.c 40) { base with devsel := 3, deck := [0x00000000030000000009, 1] }) =
      (some 3, some 9, some [1]) := by decide

/-- V-L1-5, P6. -/
theorem test_c_device :
    (fun r => (fault? r, word? 20 r)) (exec (.c 20) { base with devsel := 4, cc := .right, mem := [(20, 0o777)] }) =
      (some ⟨.unimplementedDevice 4, 0, .right⟩, some 0o777) := by decide

theorem test_rd_block :
    (fun r => (word? 500 r, word? 502 r, word? 503 r)) (exec (.rd 500)
      { base with mq := 0o00001440230146, drum := [(77924, 11), (77925, 12), (77926, 13)] }) =
      (some 11, some 13, some 0) := by decide

theorem test_rd_drum_bounds :
    fault? (exec (.rd 500) { base with mq := 0o00001440370146 }) =
      some ⟨.drumBounds ⟨0, 3, 7⟩, 0, .left⟩ := by decide

theorem test_wd_block :
    (nextOf (exec (.wd 4095) { base with mq := 0o00000010230002, mem := [(0, 22), (4095, 21)] })).map State.drum =
      some [(77825, 21), (77826, 22)] := by decide

/-- Rule R357: the words before the unwritten one stay moved. -/
theorem test_wd_unwritten :
    (fun r => (fault? r, (nextOf r).map State.drum)) (exec (.wd 4095) { strict with mq := 0o00000010230002, mem := [(4095, 21)] }) =
      (some ⟨.unwrittenRead 0, 0, .left⟩, some [(77825, 21)]) := by decide

theorem test_clear1 :
    (fun r => (a? r, mq? r, nr? r, ov? r))
      (exec (.clear1 9) { base with a := 0xffffffffff, mq := 0x5, nr := 3, ov := true }) =
      (some 0, some 5, some 3, some true) := by decide

theorem test_clear2 :
    (fun r => (a? r, mq? r, nr? r, ov? r))
      (exec (.clear2 9) { base with a := 0xffffffffff, mq := 0x5, nr := 3, ov := true }) =
      (some 0, some 5, some 3, some true) := by decide

theorem test_clear3 :
    (fun r => (a? r, mq? r, nr? r, ov? r))
      (exec (.clear3 9) { base with a := 0xffffffffff, mq := 0x5, nr := 3, ov := true }) =
      (some 0, some 5, some 3, some true) := by decide

theorem test_clear4 :
    (fun r => (a? r, mq? r, nr? r, ov? r))
      (exec (.clear4 9) { base with a := 0xffffffffff, mq := 0x5, nr := 3, ov := true }) =
      (some 0, some 5, some 3, some true) := by decide

/-! ### The MTC channel (rule R70) -/

/-- The seven messages of rule R70, in its order. -/
def requests : List MtcRequest :=
  [.writeLineBuffer 1 (Vector.replicate 81 0), .readLineBuffer 1,
   .setControlRegister 2 ⟨some true, none, none, none, none, none, none, some 0xF, none, none, none,
     none, none, none, none⟩,
   .getControlRegister 2, .matchControlRegister 1 2, .mismatchControlRegister 1 2, .bufferTransmission 1]

/-- Their responses, in the same order. -/
def responses : List MtcResponse :=
  [.writeLineBuffer, .readLineBuffer (Vector.replicate 81 0), .setControlRegister,
   .getControlRegister 0, .matchControlRegister 0, .mismatchControlRegister 0, .bufferTransmission true]

/-- Each request is answered by the response of its own message and by no other. -/
theorem test_one_matching_response :
    requests.map (fun q => responses.map q.answeredBy) =
      (List.range 7).map (fun i => (List.range 7).map (· == i)) := by decide

/-- Rules R311 to R316: the opcode of each message; none for BufferTransmission. -/
theorem test_message_senders :
    requests.map MtcRequest.sender =
      [some .writeLineBuffer, some .readLineBuffer, some .writeScr, some .readScr, some .matchScr,
       some .mismatchScr, none] := by decide

theorem test_typewriter_refused :
    refusal? (exec (.readScr 0) base) = some (.typewriterOp .readScr) := by decide

/-! ### The sequencer (vectors 2.7, V-L1-8, P3) -/

theorem test_step_left :
    (fun r => (a? r, pc? r)) (step { base with mem := [(0, 0xa0023f00a), (1, 0x3039)] }) = (some 12345, some (0, .right)) := by decide

theorem test_step_right_wraps :
    pc? (step { base with nir := 4095, cc := .right, mem := [(4095, 0xd200069000)] }) = some (0, .left) := by decide

/-- P3: SAR 1 in the left half of word 1, then the right half of the word as stored. -/
theorem test_self_modifying :
    pc? (Sys2Proof.core.run 2 { base with a := 0x5, nir := 1, mem := [(1, 0xa600241000)] }) = some (5, .right) := by decide

theorem test_unknown_op :
    (fun r => (fault? r, (nextOf r).map State.ir)) (step { base with nir := 3, mem := [(3, 0x0)] }) =
      (some ⟨.unknownOpcode 0, 3, .left⟩, some 0) := by decide

theorem test_unwritten_fetch :
    fault? (step { strict with nir := 9 }) = some ⟨.unwrittenRead 9, 9, .left⟩ := by decide

theorem test_placed_half_runs :
    a? (step (({ base with a := 5 } : State).withFetchWord 24 0b1101011_000000000000)) = some 0 := by decide

end Sys2Proof.Machine.Tests
end

