-- ==== Sys2Proof/Tests/Witnesses.lean ====
section
/-! SUPPORT. For every statement of Certificates/Slice0/Obligations.lean that has hypotheses, a concrete state and operands that meet all of
them together, one theorem a statement, each clause at a boundary value of its range. -/

namespace Sys2Proof.Machine.Tests

/-- Word 4095 holds 5; word 0 is written in neither. -/
def loaded : State := { base with mem := [(4095, 5)] }

/-- A word whose left half is RA 1 and whose right half is HTL 10, under the tests' map. -/
def raHtl : Word := encodeWord testMap (.ra 1) (.htl 10)

/-- Word 0 holds `raHtl`. -/
def program : State := { base with mem := [(0, raHtl)] }

def launched : Launch := ⟨[(0, raHtl)], [], [], base.inputs, base.params⟩

theorem witness_FirstStepRunsWordZeroLeft :
    storePeek (launch launched).mem 0 = some raHtl ∧
    decodeHalf launched.params.opcodeMap
      (halfOf (decodeWord raHtl).leftOp (decodeWord raHtl).leftAddress) = .instr (.ra 1) := by decide

theorem witness_PaddingBitsAreNotRead :
    (0#40) ≠ 0x180000#40 ∧ 0#40 &&& ~~~0x180000#40 = 0x180000#40 &&& ~~~0x180000#40 := by decide

theorem witness_DecodeInvertsEncode :
    (Instr.a 0).wellFormed testMap = true ∧ (Instr.mismatchScr 4095).wellFormed testMap = true := by decide

theorem witness_EncodeInvertsDecode :
    testMap.lawful = true ∧ decodeHalf testMap 0b0000001_111111111111#19 = .instr (.a 4095) := by
  decide +kernel

theorem witness_WrittenWordsDecode :
    testMap.classOf 0b0000101#7 = .op .ra ∧ testMap.classOf 0b0111111#7 = .op .htl ∧
    testMap.classOf 0b0000000#7 = .unknown := by decide

theorem witness_StepRunsTheDecodedHalf_left :
    program.fault = none ∧ program.mtcPending = none ∧ program.halted = false ∧
    memRead program program.nir = some raHtl ∧
    decodeHalf testMap (halfOf (decodeWord raHtl).leftOp (decodeWord raHtl).leftAddress) =
      .instr (.ra 1) := by decide

theorem witness_StepRunsTheDecodedHalf_right :
    memRead { program with cc := .right } 0 = some raHtl ∧
    decodeHalf testMap (halfOf (decodeWord raHtl).rightOp (decodeWord raHtl).rightAddress) =
      .instr (.htl 10) := by decide

theorem witness_FetchOfAnUnwrittenCell :
    strict.fault = none ∧ strict.mtcPending = none ∧ strict.halted = false ∧
    storePeek strict.mem strict.nir.toNat = none ∧ strict.params.unwrittenReadFaults = true ∧
    base.fault = none ∧ base.mtcPending = none ∧ base.halted = false ∧
    storePeek base.mem base.nir.toNat = none ∧ base.params.unwrittenReadFaults = false := by decide

theorem witness_IllegalCodesFaultAtDispatch :
    memRead base base.nir = some 0 ∧ (0 : OpField) = (decodeWord 0).leftOp ∧
    base.params.opcodeMap.classOf 0 = .unknown ∧
    memRead { base with mem := [(0, 0b1111100_000000000000_00_0000000_000000000000#40)] } 0 =
      some 0b1111100_000000000000_00_0000000_000000000000#40 ∧
    (124 : OpField) = (decodeWord 0b1111100_000000000000_00_0000000_000000000000#40).leftOp ∧
    base.params.opcodeMap.classOf 124 = .unimplemented "NOT EMULATED" := by decide

theorem witness_FaultedStateIsTerminal :
    ({ base with fault := some ⟨.cardsExhausted, 0, .left⟩ } : State).fault =
      some ⟨.cardsExhausted, 0, .left⟩ := rfl

theorem witness_PendingRequestIsStuck :
    base.fault = none ∧ base.mtcPending = none ∧
    ({ base with mtcPending := some (.bufferTransmission 0) } : State).fault = none ∧
    ({ base with mtcPending := some (.bufferTransmission 0) } : State).mtcPending =
      some (.bufferTransmission 0) := ⟨rfl, rfl, rfl, rfl⟩

theorem witness_HaltedMachineWaitsForGo :
    base.fault = none ∧ base.mtcPending = none ∧
    ({ base with halted := true } : State).halted = true ∧
    switchValue .go { base with halted := true } = false ∧
    switchValue .go { base with halted := true, inputs := allSet } = true := by decide

theorem witness_AdvancesRunThroughTheHalves : ({ base with nir := 4095 } : State).cc = .left := rfl

theorem witness_AnInstructionHasOneOfFourOutcomes :
    base.fault = none ∧ base.halted = false ∧
    (∃ t, exec (.clear1 0) base = .next t) ∧ (∃ t, exec (.trl 4095) base = .next t) ∧
    (∃ t, exec (.htr 4095) base = .next t) ∧ (∃ t, exec (.c 0) base = .next t) :=
  ⟨rfl, rfl, ⟨_, rfl⟩, ⟨_, rfl⟩, ⟨_, rfl⟩, ⟨_, rfl⟩⟩

/-- Word 0 holds HTL 10 and word 1 an unknown code. -/
def halting : State := { base with mem := [(0, encodeWord testMap (.htl 10) (.htl 10))] }

theorem witness_GoEndsOnlyAtAHaltOrAFault :
    (∃ t, go 2 halting = .halted t) ∧ (∃ r t, go 2 base = .faulted r t) ∧
    base.mtcPending = none :=
  ⟨⟨_, rfl⟩, ⟨_, _, rfl⟩, rfl⟩

theorem witness_OverflowIsWrittenOnlyByTheAdder :
    Mnemonic.ra ∉ overflowWriters ∧ ∃ t, exec (.ra 4095) loaded = .next t :=
  ⟨by decide, _, rfl⟩

theorem witness_OverflowIsSticky :
    (∃ t, step { program with ov := true } = .next t) ∧
    ({ program with ov := true } : State).ov = true := ⟨⟨_, rfl⟩, rfl⟩

theorem witness_OnlyTheTablesWritersChangeARegister :
    (∃ t, exec (.trl 0) base = .next t) ∧ Mnemonic.trl ∉ accumulatorWriters ∧
    Mnemonic.trl ∉ quotientWriters ∧ Mnemonic.trl ≠ .sel ∧ Mnemonic.trl ≠ .c ∧ Mnemonic.trl ≠ .wd :=
  ⟨⟨_, rfl⟩, by decide⟩

/-- MQ asks for drum words 0 and 1 of drum 0, position 2, band 3; both are in the drum store. -/
def drumState : State :=
  { base with
    mq := 0b0000000_000000000000_00_0010011_000000000001#40
    drum := [(drumKey ⟨0, 2, 3⟩ 0, 7), (drumKey ⟨0, 2, 3⟩ 1, 8)] }

theorem witness_MemoryChangesOnlyWhereAStoreWrites :
    (∃ t, exec (.clear1 0) base = .next t) ∧ Mnemonic.clear1 ∉ wordStorers ∧
    Mnemonic.clear1 ≠ .rd ∧
    (∃ t, exec (.sal 4095) loaded = .next t) ∧ Mnemonic.sal ∈ wordStorers ∧
    (0 : Addr) ≠ (Instr.sal 4095).addr ∧
    (∃ t, exec (.rd 4095) drumState = .next t) ∧
    ∀ j < (drumControl drumState.mq).count, (1 : Addr) ≠ 4095 + BitVec.ofNat 12 j :=
  ⟨⟨_, rfl⟩, by decide, by decide, ⟨_, rfl⟩, by decide, by decide, ⟨_, rfl⟩, by decide⟩

theorem witness_EveryStepKeepsTheInvariant :
    program.inv = true ∧ ∃ t, step program = .next t := ⟨by decide, _, rfl⟩

theorem witness_MemoryReadAfterWrite : (0 : Addr) ≠ 4095 := by decide

/-- The operand of every memory-reading instruction: readable at 4095, and unreadable at 0. -/
theorem witness_operand : memRead loaded 4095 = some 5 ∧ memRead strict 0 = none := by decide

theorem witness_AddResult : memRead loaded 4095 = some 5 ∧ memRead strict 0 = none := witness_operand
theorem witness_SubtractResult : memRead loaded 4095 = some 5 ∧ memRead strict 0 = none := witness_operand
theorem witness_ResetAddLoadsA : memRead loaded 4095 = some 5 ∧ memRead strict 0 = none := witness_operand
theorem witness_ResetSubtractLoadsTheNegation :
    memRead { base with mem := [(0, 0x8000000000#40)] } 0 = some 0x8000000000#40 ∧
    memRead strict 0 = none := by decide
theorem witness_ResetSubtractAbsoluteLoadsMinusMagnitude :
    memRead { base with mem := [(0, 0x8000000000#40)] } 0 = some 0x8000000000#40 ∧
    memRead strict 0 = none := by decide
theorem witness_LogicalInstructions :
    memRead loaded 4095 = some 5 ∧ memRead strict 0 = none := witness_operand
theorem witness_LoadMqResult : memRead loaded 4095 = some 5 ∧ memRead strict 0 = none := witness_operand
/-- A readable and an unreadable operand; a zero multiplicand; and each corner row as a state. -/
theorem witness_MultiplyAndDivideOnEveryOperand :
    (memRead loaded 4095 = some 5 ∧ memRead strict 0 = none) ∧ memRead base 0 = some 0 ∧
    ∀ c ∈ multiplyCorners ++ divideCorners,
      memRead { base with a := c.a0, mq := c.mq0, mem := [(4095, c.nr)] } 4095 = some c.nr := by
  decide

/-- The largest multiplicand of the domain with the most negative addend. -/
theorem witness_MultiplyLaw :
    memRead { base with a := 0xC000000001#40, mem := [(0, 0x3FFFFFFFFF#40)] } 0 =
      some 0x3FFFFFFFFF#40 ∧
    |sval 0x3FFFFFFFFF#40| < 2 ^ 38 ∧ |sval 0xC000000001#40| < 2 ^ 38 := by decide

/-- A dividend just below the divisor, and the divisor -5 of the artifact. -/
theorem witness_DivideLaw :
    memRead { base with a := 4, mem := [(0, 5)] } 0 = some 5 ∧ |sval 5| < 2 ^ 38 ∧
    |sval 4| < |sval 5| ∧
    memRead { base with mem := [(0, 0xFFFFFFFFFB#40)] } 0 = some 0xFFFFFFFFFB#40 ∧
    |sval 0xFFFFFFFFFB#40| < 2 ^ 38 ∧ |sval 0| < |sval 0xFFFFFFFFFB#40| := by decide

theorem witness_PartialStoresWriteTheirBitsOnly :
    memRead loaded 4095 = some 5 ∧ memRead strict 0 = none := witness_operand

theorem witness_TransfersOnTheTSwitches :
    switchValue .t1 { base with inputs := allSet } = true ∧ switchValue .t1 base = false := by decide

theorem witness_HaltInstructions :
    switchValue .h3 { base with inputs := allSet } = true ∧ switchValue .h3 base = false := by decide

theorem witness_CardCopiesTheNextCard :
    ({ base with devsel := 3, deck := [1] } : State).devsel = base.params.cardFeedDevice ∧
    ({ base with devsel := 3, deck := [1] } : State).deck = 1 :: [] := by decide

theorem witness_CardFaultsChangeNothing :
    base.devsel ≠ base.params.cardFeedDevice ∧
    ({ base with devsel := 3 } : State).devsel = base.params.cardFeedDevice ∧
    ({ base with devsel := 3 } : State).deck = [] := by decide

/-- A control word of no words, one of an admitted unit, and one of drum 1, which is not admitted. -/
theorem witness_DrumReadMovesTheBlock :
    (drumControl 0b0000000_000000000001_00_0010011_000000000000#40).count = 0 ∧
    (drumControl drumState.mq).count = 2 ∧
    drumAdmitted drumState (drumControl drumState.mq).drumUnit = true ∧
    (drumControl 0b0000000_000000000000_00_1010011_111111111111#40).count = 4096 ∧
    drumAdmitted base (drumControl 0b0000000_000000000000_00_1010011_111111111111#40).drumUnit =
      false := by decide

theorem witness_DrumWriteMovesTheBlock :
    drumAdmitted drumState (drumControl drumState.mq).drumUnit = true ∧
    ∀ j < (drumControl drumState.mq).count, memRead drumState (4095 + BitVec.ofNat 12 j) ≠ none := by
  decide

/-- Word 4095 can be read and word 0, the second of the block, cannot. -/
def partialWrite : State := { drumState with mem := [(4095, 5)], params := strict.params }

theorem witness_DrumWriteStopsAtTheFirstFault :
    1 < (drumControl partialWrite.mq).count ∧
    drumAdmitted partialWrite (drumControl partialWrite.mq).drumUnit = true ∧
    memRead partialWrite (4095 + BitVec.ofNat 12 1) = none ∧
    (∀ j < 1, memRead partialWrite (4095 + BitVec.ofNat 12 j) ≠ none) ∧
    (⟨1, 2, 3⟩ : DrumUnit) ≠ (drumControl partialWrite.mq).drumUnit ∧
    (∀ j < 1, (drumControl partialWrite.mq).first + 1 ≠
      (drumControl partialWrite.mq).first + BitVec.ofNat 12 j) ∧
    0 < (drumControl 0b0000000_000000000000_00_1010011_111111111111#40).count ∧
    drumAdmitted base (drumControl 0b0000000_000000000000_00_1010011_111111111111#40).drumUnit =
      false := by decide

end Sys2Proof.Machine.Tests
end

section
/-! The MTC channel (spec/20_memory.md rule R70, spec/60_exceptions.md rule R359): what a state with an outstanding
request answers to a step, to another request and to a response. -/

namespace Sys2Proof.Machine

/-- While a request is outstanding the channel takes no other (rule R70: "one outstanding at a time"). -/
theorem sendRequest_of_pending {request : MtcRequest} {s : State}
    (hp : s.mtcPending = some request) (other : MtcRequest) : sendRequest other s = none := by
  rw [Option.eq_none_iff_forall_ne_some]
  intro t ht
  obtain ⟨hfree, _⟩ := sendRequest_eq_some.mp ht
  simp [hp] at hfree

/-- The sequencer's WAIT_MTC state has no enabled step (rule R359). -/
theorem step_of_pending {request : MtcRequest} {s : State}
    (hf : s.fault = none) (hp : s.mtcPending = some request) :
    step s = .fault (.waitMtc request) := by
  simp only [step, hf, hp]

/-- Which responses end the wait is said by the outstanding request alone (log entry 27). -/
theorem endsWait_of_pending {request : MtcRequest} {s : State}
    (hp : s.mtcPending = some request) (response : MtcResponse) :
    endsWait response s = request.answeredBy response := by
  simp only [endsWait, hp]

/-- Settles O13. A request just sent is outstanding, so both clauses rest on the rules of a pending state. -/
theorem pendingRequestIsStuck : Obligations.PendingRequestIsStuck := by
  intro s request hf
  constructor
  · intro hp
    exact ⟨step_of_pending hf hp, sendRequest_of_pending hp⟩
  · intro hfree
    have hsent : sendRequest request s = some { s with mtcPending := some request } :=
      sendRequest_eq_some.mpr ⟨hfree, rfl⟩
    exact ⟨hsent, step_of_pending hf rfl, endsWait_of_pending rfl⟩

end Sys2Proof.Machine
end

section
/-! The decoder's fields as natural numbers (spec/30_encoding.md rule R81). -/

namespace Sys2Proof.Machine

/-- A bit field of any width, read as a number: shift its lowest bit down and mask off what stands above it. -/
theorem toNat_extractLsb'_eq_shift_mask {width : Nat} (w : BitVec width) (low len : Nat) :
    (w.extractLsb' low len).toNat = (w.toNat >>> low) &&& (2 ^ len - 1) := by
  rw [BitVec.extractLsb'_toNat, Nat.and_two_pow_sub_one_eq_mod]

/-- A field that reaches the top of the word needs no mask. -/
theorem toNat_extractLsb'_top {low len : Nat} (w : BitVec (low + len)) :
    (w.extractLsb' low len).toNat = w.toNat >>> low := by
  have hbound : w.toNat >>> low < 2 ^ len := by
    rw [Nat.shiftRight_eq_div_pow]
    exact Nat.div_lt_of_lt_mul (by simpa only [pow_add] using w.isLt)
  rw [BitVec.extractLsb'_toNat, Nat.mod_eq_of_lt hbound]

/-- Settles O3. The left operation is the field at the top of the word; the other three stand below other bits and
are masked. -/
theorem decodedFieldsAreTheShiftsAndMasks : Obligations.DecodedFieldsAreTheShiftsAndMasks := by
  intro w
  refine ⟨?leftOp, ?leftAddress, ?rightOp, ?rightAddress⟩
  case leftOp => exact toNat_extractLsb'_top (low := 33) (len := 7) w
  case leftAddress => exact toNat_extractLsb'_eq_shift_mask w 21 12
  case rightOp => exact toNat_extractLsb'_eq_shift_mask w 12 7
  case rightAddress => exact toNat_extractLsb'_eq_shift_mask w 0 12

end Sys2Proof.Machine
end

section
/-! The adder over the integers (spec/41_alu.md rules R100 to R103): its flag is the signed overflow of a 40-bit sum or
difference, and the addition and subtraction each have one closed form over the state. -/

namespace Sys2Proof.Machine

/-- The complement of rule R12 is the negation of arithmetic modulo 2^40. -/
theorem comp_eq_neg (v : Word) : comp v = -v :=
  (BitVec.neg_eq_not_add v).symm

/-- The sign bit of rule R11 is the library's top bit. -/
theorem sign_eq_msb (v : Word) : sign v = v.msb :=
  (BitVec.msb_eq_getLsbD_last v).symm

theorem sign_eq_true_iff {v : Word} : sign v = true ↔ sval v < 0 := by
  rw [sign_eq_msb, BitVec.msb_eq_toInt, decide_eq_true_iff, sval]

theorem sign_eq_false_iff {v : Word} : sign v = false ↔ 0 ≤ sval v := by
  rw [← Bool.not_eq_true, sign_eq_true_iff, not_lt]

theorem sval_lt (v : Word) : sval v < 2 ^ 39 := BitVec.toInt_lt

theorem le_sval (v : Word) : -2 ^ 39 ≤ sval v := BitVec.le_toInt v

theorem ofInt_sval (v : Word) : BitVec.ofInt 40 (sval v) = v := BitVec.ofInt_toInt

/-! ### The flag -/

/-- Adding: the signs agree before, and the result's differs (rule R100). -/
theorem hasOverflow_add_eq_signs (a x : Word) :
    hasOverflow a x (a + x) false = (sign a == sign x && sign (a + x) != sign a) := rfl

/-- Rule R100's comparison of signs is signed overflow of the sum. -/
theorem hasOverflow_add (a x : Word) :
    hasOverflow a x (a + x) false = a.saddOverflow x := by
  rw [hasOverflow_add_eq_signs, BitVec.saddOverflow_eq,
    ← sign_eq_msb, ← sign_eq_msb, ← sign_eq_msb]
  rfl

/-- Subtracting with the complemented sign of rule R101: the signs differ before, and the result's from A's. -/
theorem hasOverflow_sub_eq_signs (a x : Word) :
    hasOverflow a x (a - x) true = (sign a != sign x && sign (a - x) != sign a) := by
  unfold hasOverflow
  cases sign a <;> cases sign x <;> rfl

/-- The bitwise complement of the operand's sign (rule R101) is right for the operands 0 and -2^39 too, where the
negation does not change the sign. -/
theorem hasOverflow_sub (a x : Word) :
    hasOverflow a x (a - x) true = a.ssubOverflow x := by
  rw [hasOverflow_sub_eq_signs, BitVec.ssubOverflow_eq,
    ← sign_eq_msb, ← sign_eq_msb, ← sign_eq_msb]
  cases sign a <;> cases sign x <;> cases sign (a - x) <;> rfl

theorem saddOverflow_iff_sval (a x : Word) :
    a.saddOverflow x = true ↔ sval a + sval x < -2 ^ 39 ∨ 2 ^ 39 ≤ sval a + sval x := by
  simp only [BitVec.saddOverflow, Bool.or_eq_true, decide_eq_true_iff, ge_iff_le]
  exact or_comm

theorem ssubOverflow_iff_sval (a x : Word) :
    a.ssubOverflow x = true ↔ sval a - sval x < -2 ^ 39 ∨ 2 ^ 39 ≤ sval a - sval x := by
  simp only [BitVec.ssubOverflow, Bool.or_eq_true, decide_eq_true_iff, ge_iff_le]
  exact or_comm

/-! ### The adder over the state -/

theorem addCore_add (x : Word) (s : State) :
    addCore x false s =
      { s with nr := x, a := s.a + x, ov := s.ov || s.a.saddOverflow x } := by
  rw [← hasOverflow_add]
  rfl

theorem addCore_sub (x : Word) (s : State) :
    addCore x true s =
      { s with nr := x, a := s.a - x, ov := s.ov || s.a.ssubOverflow x } := by
  rw [← hasOverflow_sub, BitVec.sub_eq_add_neg, ← comp_eq_neg]
  rfl

/-- Settles O30. Each direction is the library's signed addition or subtraction of 40-bit words. -/
theorem adderIsExact : Obligations.AdderIsExact := by
  intro x sub s
  cases sub with
  | false =>
    have hsum : BitVec.ofInt 40 (sval s.a + sval x) = s.a + x := by
      rw [BitVec.ofInt_add, ofInt_sval, ofInt_sval]
    rw [addCore_add]
    refine ⟨hsum.symm, ?_, rfl⟩
    rw [Bool.or_eq_true, saddOverflow_iff_sval]
    rfl
  | true =>
    have hdifference : BitVec.ofInt 40 (sval s.a - sval x) = s.a - x := by
      rw [sub_eq_add_neg, BitVec.ofInt_add, BitVec.ofInt_neg, ofInt_sval, ofInt_sval,
        BitVec.sub_eq_add_neg]
    rw [addCore_sub]
    refine ⟨hdifference.symm, ?_, rfl⟩
    rw [Bool.or_eq_true, ssubOverflow_iff_sval]
    rfl

end Sys2Proof.Machine
end

section
/-! Add, subtract, load and the logical instructions (spec/41_alu.md rules R104 to R111): what each does with a readable
operand, and the fault of an unwritten one. -/

namespace Sys2Proof.Machine

/-! ### The arms of exec -/

theorem exec_a (addr : Addr) (s : State) :
    exec (.a addr) s = withOperand addr s fun x => complete (addCore x false s) := rfl

theorem exec_s (addr : Addr) (s : State) :
    exec (.s addr) s = withOperand addr s fun x => complete (addCore x true s) := rfl

theorem exec_ra (addr : Addr) (s : State) :
    exec (.ra addr) s =
      withOperand addr (clearA s) fun x => completeSilent { clearA s with a := x } := rfl

theorem exec_rs (addr : Addr) (s : State) :
    exec (.rs addr) s =
      withOperand addr (clearA s) fun x => complete (addCore x true (clearA s)) := rfl

theorem exec_rsv (addr : Addr) (s : State) :
    exec (.rsv addr) s = withOperand addr s fun x => complete (loadMinusMagnitude x s) := rfl

theorem exec_pi (addr : Addr) (s : State) :
    exec (.pi addr) s = withOperand addr s fun x => completeSilent { s with a := s.a &&& x } := rfl

theorem exec_ni (addr : Addr) (s : State) :
    exec (.ni addr) s =
      withOperand addr s fun x => completeSilent { s with a := s.a &&& ~~~x } := rfl

theorem exec_lm (addr : Addr) (s : State) :
    exec (.lm addr) s = withOperand addr s fun x => completeSilent { s with mq := x } := rfl

/-- Clearing A before the read does not change what is read (rules R106, R107). -/
@[simp] theorem memRead_clearA (s : State) (addr : Addr) :
    memRead (clearA s) addr = memRead s addr := memRead_congr rfl rfl addr

/-! ### The adder on a cleared A -/

theorem sval_zero : sval 0 = 0 := rfl

/-- Adding to 0 cannot overflow. -/
theorem zero_saddOverflow (x : Word) : BitVec.saddOverflow 0 x = false := by
  have hlow := le_sval x
  have hhigh := sval_lt x
  rw [← Bool.not_eq_true, saddOverflow_iff_sval, sval_zero]
  omega

/-- Subtracting from 0 overflows for the operand -2^39 alone (rule R107's derived mark). -/
theorem zero_ssubOverflow (x : Word) :
    BitVec.ssubOverflow 0 x = (x == 0x8000000000#40) := by
  have hlow := le_sval x
  have hhigh := sval_lt x
  have hmin : x = 0x8000000000#40 ↔ sval x = -2 ^ 39 := BitVec.toInt_inj.symm
  rw [Bool.eq_iff_iff, ssubOverflow_iff_sval, beq_iff_eq, hmin, sval_zero]
  omega

/-- An operand with sign 0 is not -2^39, so subtracting it from 0 cannot overflow. -/
theorem zero_ssubOverflow_of_sign_false {x : Word} (hsign : sign x = false) :
    BitVec.ssubOverflow 0 x = false := by
  rw [zero_ssubOverflow, beq_eq_false_iff_ne]
  rintro rfl
  exact absurd hsign (by decide)

/-- Rule R108: minus the magnitude is in range for every operand, so the adder raises no flag. -/
theorem loadMinusMagnitude_eq (x : Word) (s : State) :
    loadMinusMagnitude x s = { s with nr := x, a := BitVec.ofInt 40 (-|sval x|) } := by
  unfold loadMinusMagnitude
  cases hsign : sign x with
  | true =>
    have hword : BitVec.ofInt 40 (-|sval x|) = x := by
      rw [abs_of_neg (sign_eq_true_iff.mp hsign), neg_neg, ofInt_sval]
    rw [hword, Bool.not_true, addCore_add, clearA_a, zero_saddOverflow, Bool.or_false, zero_add]
    rfl
  | false =>
    have hword : BitVec.ofInt 40 (-|sval x|) = -x := by
      rw [abs_of_nonneg (sign_eq_false_iff.mp hsign), BitVec.ofInt_neg, ofInt_sval]
    rw [hword, Bool.not_false, addCore_sub, clearA_a, zero_ssubOverflow_of_sign_false hsign,
      Bool.or_false, zero_sub]
    rfl

/-! ### The instructions -/

/-- Settles O31. The adder's flag is read back as the comparison of signs in rule R100. -/
theorem addResult : Obligations.AddResult := by
  intro addr s
  rw [exec_a]
  refine ⟨fun x hx => ?_, fun hnone => withOperand_none hnone _⟩
  rw [withOperand_some hx, complete_eq, addCore_add, ← hasOverflow_add, hasOverflow_add_eq_signs]

/-- Settles O32. The flag is read back as the comparison of signs in rules R100 and R101. -/
theorem subtractResult : Obligations.SubtractResult := by
  intro addr s
  rw [exec_s]
  refine ⟨fun x hx => ?_, fun hnone => withOperand_none hnone _⟩
  rw [withOperand_some hx, complete_eq, addCore_sub, ← hasOverflow_sub, hasOverflow_sub_eq_signs]

/-- Settles O33. The read finds A already cleared, so its fault leaves A = 0. -/
theorem resetAddLoadsA : Obligations.ResetAddLoadsA := by
  intro addr s
  rw [exec_ra, ← memRead_clearA]
  refine ⟨fun x hx => ⟨Config.nrDraw s.draws, ?_⟩, fun hnone => withOperand_none hnone _⟩
  rw [withOperand_some hx, completeSilent_eq]
  rfl

/-- Settles O34. The subtraction is from a cleared A, whose fault leaves A = 0. -/
theorem resetSubtractLoadsTheNegation : Obligations.ResetSubtractLoadsTheNegation := by
  intro addr s
  rw [exec_rs, ← memRead_clearA]
  refine ⟨fun x hx => ?_, fun hnone => withOperand_none hnone _⟩
  rw [withOperand_some hx, complete_eq, addCore_sub, clearA_a, zero_ssubOverflow, zero_sub]
  rfl

/-- Settles O35. The read comes before A is cleared, so its fault leaves A as it was. -/
theorem resetSubtractAbsoluteLoadsMinusMagnitude :
    Obligations.ResetSubtractAbsoluteLoadsMinusMagnitude := by
  intro addr s
  rw [exec_rsv]
  refine ⟨fun x hx => ?_, fun hnone => withOperand_none hnone _⟩
  rw [withOperand_some hx, complete_eq, loadMinusMagnitude_eq]

/-- Settles O36. The word loaded is the conjunction with the operand, or with its complement. -/
theorem logicalInstructions : Obligations.LogicalInstructions := by
  intro addr s
  refine ⟨fun x hx => ⟨⟨Config.nrDraw s.draws, s.a &&& x, ?pi, ?piBits⟩,
    ⟨Config.nrDraw s.draws, s.a &&& ~~~x, ?ni, ?niBits⟩⟩, ?fault⟩
  case pi => rw [exec_pi, withOperand_some hx, completeSilent_eq]
  case ni => rw [exec_ni, withOperand_some hx, completeSilent_eq]
  case piBits => exact fun k _ => BitVec.getLsbD_and
  case niBits =>
    intro k hk
    rw [BitVec.getLsbD_and, BitVec.getLsbD_not, decide_eq_true hk, Bool.true_and]
  case fault =>
    intro hnone i hi
    simp only [List.mem_cons, List.not_mem_nil, or_false] at hi
    obtain rfl | rfl := hi
    · exact (exec_pi addr s).trans (withOperand_none hnone _)
    · exact (exec_ni addr s).trans (withOperand_none hnone _)

/-- Settles O37. LM is a silent completion with MQ written. -/
theorem loadMqResult : Obligations.LoadMqResult := by
  intro addr s
  rw [exec_lm]
  refine ⟨fun x hx => ⟨Config.nrDraw s.draws, ?_⟩, fun hnone => withOperand_none hnone _⟩
  rw [withOperand_some hx, completeSilent_eq]

end Sys2Proof.Machine
end

section
/-! Multiply and divide on every operand (spec/42_muldiv.md sections 1 and 2): each round on the registers is the round
over the integers, A read with its sign and MQ as a natural number, so the 39 rounds are too. -/

namespace Sys2Proof.Machine

/-! ### Words read as integers -/

/-- "All additions are `mod 2^40`": the signed value of a sum is the wrapped sum of the signed values. -/
theorem sval_add (a x : Word) : sval (a + x) = wrapSigned (sval a + sval x) :=
  BitVec.toInt_add a x

/-- Adding the complement of rule R12 subtracts. -/
theorem sval_add_comp (a x : Word) : sval (a + comp x) = wrapSigned (sval a - sval x) := by
  rw [comp_eq_neg, ← BitVec.sub_eq_add_neg]
  exact BitVec.toInt_sub

/-- Wrapping a summand first does not change the wrapped sum. -/
theorem wrapSigned_add_left (u v : Int) : wrapSigned (wrapSigned u + v) = wrapSigned (u + v) :=
  Int.bmod_add_bmod

/-- The lowest bit of a word as a number. -/
theorem toNat_getLsbD_zero (v : Word) : (v.getLsbD 0).toNat = v.toNat % 2 := by
  rw [BitVec.getLsbD, Nat.toNat_testBit, pow_zero, Nat.div_one]

theorem toNat_getLsbD_38 (v : Word) : (v.getLsbD 38).toNat = v.toNat / 2 ^ 38 % 2 :=
  Nat.toNat_testBit v.toNat 38

/-- The sign bit splits off a word's low 39 bits. -/
theorem toNat_eq_low_add_sign (v : Word) :
    v.toNat = v.toNat % 2 ^ 39 + (sign v).toNat * 2 ^ 39 := by
  have hsign : (sign v).toNat = v.toNat / 2 ^ 39 % 2 := Nat.toNat_testBit v.toNat 39
  have hbound := v.isLt
  omega

/-- A word given as 39 low bits and a sign bit has that sign. -/
theorem sign_eq_of_toNat {v : Word} {low : Nat} {b : Bool} (hlow : low < 2 ^ 39)
    (hv : v.toNat = low + b.toNat * 2 ^ 39) : sign v = b := by
  have hsplit := toNat_eq_low_add_sign v
  have hbit : (sign v).toNat = b.toNat := by omega
  rw [Bool.eq_iff_iff, ← Bool.toNat_eq_one, hbit, Bool.toNat_eq_one]

/-- Two's complement (rule R11): the sign bit takes 2^40 off. -/
theorem sval_eq_toNat_sub_sign (v : Word) : sval v = v.toNat - (sign v).toNat * 2 ^ 40 := by
  rw [sval, BitVec.toInt_eq_msb_cond, ← sign_eq_msb]
  cases sign v with
  | false => exact (sub_zero _).symm
  | true => rfl

/-- A word's signed value and its plain value have the same lowest bit. -/
theorem sval_emod_two (v : Word) : sval v % 2 = v.toNat % 2 := by
  rw [sval_eq_toNat_sub_sign]
  omega

/-! ### Writing one bit of a word -/

theorem toNat_bitWord (b : Bool) : (bitWord b).toNat = b.toNat := by
  cases b <;> rfl

/-- A bit written at the top of a word whose sign is 0. -/
theorem toNat_or_topBit {v : Word} (hv : v.toNat < 2 ^ 39) (b : Bool) :
    (v ||| (bitWord b <<< 39)).toNat = v.toNat + b.toNat * 2 ^ 39 := by
  have htop : (bitWord b <<< 39).toNat = 2 ^ 39 * b.toNat := by cases b <;> rfl
  rw [BitVec.toNat_or, htop, Nat.or_comm, ← Nat.two_pow_add_eq_or_of_lt hv]
  omega

/-- A bit written at the bottom of an even word. -/
theorem toNat_or_bitWord {v : Word} (hv : v.toNat % 2 = 0) (b : Bool) :
    (v ||| bitWord b).toNat = v.toNat + b.toNat := by
  have heven : v.toNat = 2 ^ 1 * (v.toNat / 2) := by omega
  rw [BitVec.toNat_or, toNat_bitWord, heven, ← Nat.two_pow_add_eq_or_of_lt b.toNat_lt]

theorem toNat_shiftLeft_one (v : Word) : (v <<< 1).toNat = 2 * v.toNat % 2 ^ 40 := by
  rw [BitVec.toNat_shiftLeft, Nat.shiftLeft_eq]
  omega

theorem toNat_shiftRight_one (v : Word) : (v >>> 1).toNat = v.toNat / 2 :=
  Nat.shiftRight_eq_div_pow v.toNat 1

/-- Writing bit 39 keeps the low 39 bits. -/
theorem toNat_withSign (v : Word) (b : Bool) :
    (withSign v b).toNat = v.toNat % 2 ^ 39 + b.toNat * 2 ^ 39 := by
  have hlow : (v &&& 0x7FFFFFFFFF#40).toNat = v.toNat % 2 ^ 39 := by
    rw [BitVec.toNat_and]
    exact Nat.and_two_pow_sub_one_eq_mod v.toNat 39
  have hbound : (v &&& 0x7FFFFFFFFF#40).toNat < 2 ^ 39 := by omega
  rw [withSign, toNat_or_topBit hbound, hlow]

theorem sign_withSign (v : Word) (b : Bool) : sign (withSign v b) = b :=
  sign_eq_of_toNat (Nat.mod_lt _ (by decide)) (toNat_withSign v b)

/-- The shift of A in rules R140 and R145 halves its signed value, rounding down. -/
theorem sval_shiftRightSigned (v : Word) : sval (shiftRightSigned v) = sval v / 2 := by
  have hhalf : (v >>> 1).toNat < 2 ^ 39 := by
    rw [toNat_shiftRight_one]
    omega
  have hshift : (shiftRightSigned v).toNat = (v >>> 1).toNat + (sign v).toNat * 2 ^ 39 :=
    toNat_or_topBit hhalf (sign v)
  have hsign : sign (shiftRightSigned v) = sign v := sign_eq_of_toNat hhalf hshift
  rw [sval_eq_toNat_sub_sign, sval_eq_toNat_sub_sign, hsign, hshift, toNat_shiftRight_one]
  omega

/-- Doubling A and taking in a bit at the bottom (rule R172), on the signed value. -/
theorem sval_shiftLeft_or_bit (v : Word) (b : Bool) :
    sval ((v <<< 1) ||| bitWord b) = wrapSigned (2 * sval v + b.toNat) := by
  have hword : (v <<< 1) ||| bitWord b = v + v + bitWord b := by
    apply BitVec.eq_of_toNat_eq
    have heven : (v <<< 1).toNat % 2 = 0 := by rw [toNat_shiftLeft_one]; omega
    have hbit := b.toNat_lt
    rw [toNat_or_bitWord heven, toNat_shiftLeft_one, BitVec.toNat_add, BitVec.toNat_add,
      toNat_bitWord]
    omega
  have hbit : sval (bitWord b) = b.toNat := by cases b <;> rfl
  rw [hword, sval_add, sval_add, wrapSigned_add_left, hbit, two_mul]

/-! ### Repeated rounds -/

theorem repeatStep_eq_iterate {α : Type} (f : α → α) (n : Nat) : repeatStep f n = f^[n] := by
  induction n with
  | zero => rfl
  | succ n ih => funext x; exact congrFun ih (f x)

/-- A reading that takes each round of one loop to a round of another takes the loops to each other. -/
theorem repeatStep_semiconj {α β : Type} {read : α → β} {f : α → α} {g : β → β}
    (h : Function.Semiconj read f g) (n : Nat) (p : α) :
    read (repeatStep f n p) = repeatStep g n (read p) := by
  rw [repeatStep_eq_iterate, repeatStep_eq_iterate]
  exact h.iterate_right n p

/-! ### Multiply -/

/-- A:MQ as the integer rounds have it: A with its sign, MQ as a natural number. -/
def pairValues (p : Pair) : Int × Int := (sval p.a, p.mq.toNat)

/-- Writing a pair is writing its integers. -/
theorem withProduct_pairValues (x : Word) (p : Pair) (s : State) :
    withProduct x (pairValues p) s = setPair p { s with nr := x } := by
  have hmq : BitVec.ofInt 40 (p.mq.toNat : Int) = p.mq := by
    rw [BitVec.ofInt_natCast, BitVec.ofNat_toNat, BitVec.setWidth_eq]
  rw [withProduct, pairValues, ofInt_sval, hmq]
  rfl

/-- The routine's test of MQ's lowest bit is the integer round's test for an odd MQ. -/
theorem sval_ite_lowBit (mq u v : Word) :
    sval (if mq.getLsbD 0 then u else v) =
      if (mq.toNat : Int) % 2 = 1 then sval u else sval v := by
  have hodd : mq.getLsbD 0 = true ↔ (mq.toNat : Int) % 2 = 1 := by
    rw [← Bool.toNat_eq_one, toNat_getLsbD_zero]
    omega
  rw [apply_ite sval]
  exact if_congr hodd rfl rfl

/-- "One arithmetic right shift of the 80-bit pair A:MQ" (rule R140), over the integers. -/
theorem pairValues_shiftRight (a mq : Word) :
    pairValues ⟨shiftRightSigned a, (mq >>> 1) ||| (bitWord (a.getLsbD 0) <<< 39)⟩ =
      (sval a / 2, (mq.toNat : Int) / 2 + sval a % 2 * 2 ^ 39) := by
  have hhalf : (mq >>> 1).toNat < 2 ^ 39 := by
    rw [toNat_shiftRight_one]
    omega
  rw [pairValues, sval_shiftRightSigned, toNat_or_topBit hhalf, toNat_shiftRight_one,
    toNat_getLsbD_zero, sval_emod_two]
  rfl

/-- Rule R140's loop body: the conditional addition, then the shift of the pair. -/
theorem mulStep_semiconj (x : Word) :
    Function.Semiconj pairValues (mulStep false x) (multiplyRound (sval x)) := by
  intro p
  have hshift := pairValues_shiftRight (if p.mq.getLsbD 0 then p.a + x else p.a) p.mq
  rw [sval_ite_lowBit, sval_add] at hshift
  exact hshift

/-- Rule R140's end: the corrective subtraction, and MQ halved. -/
theorem pairValues_correct (x a mq : Word) :
    pairValues ⟨if mq.getLsbD 0 then a + comp x else a, mq >>> 1⟩ =
      (if (mq.toNat : Int) % 2 = 1 then wrapSigned (sval a - sval x) else sval a,
        (mq.toNat : Int) / 2) := by
  rw [pairValues, sval_ite_lowBit, sval_add_comp, toNat_shiftRight_one]
  rfl

/-- Rule R140 over the integers. -/
theorem pairValues_multiply (x : Word) (p : Pair) :
    pairValues (multiply false x p) = multiplyExact (sval x) (pairValues p) := by
  rw [multiplyExact, ← repeatStep_semiconj (mulStep_semiconj x)]
  exact pairValues_correct x _ _

/-! ### Divide -/

/-- A:MQ[38:0] as the integer trials have it: MQ's sign is not part of it. -/
def lowValues (p : Pair) : Int × Int := (sval p.a, ((p.mq.toNat % 2 ^ 39 : Nat) : Int))

/-- MQ's sign and the low pair give the whole pair. -/
theorem pairValues_eq_lowValues (p : Pair) :
    pairValues p = ((lowValues p).1, (lowValues p).2 + (sign p.mq).toNat * 2 ^ 39) := by
  have hmq := toNat_eq_low_add_sign p.mq
  simp only [pairValues, lowValues, Prod.mk.injEq, true_and]
  omega

/-- Rule R172 doubles the low pair. -/
theorem lowValues_plsStep (p : Pair) : lowValues (plsStep p) = doublePair (lowValues p) := by
  have htop : ((p.mq.getLsbD 38).toNat : Int) = ((p.mq.toNat % 2 ^ 39 : Nat) : Int) / 2 ^ 38 := by
    rw [toNat_getLsbD_38]
    omega
  have hlow : (withSign (p.mq <<< 1) (sign p.mq)).toNat % 2 ^ 39 =
      2 * (p.mq.toNat % 2 ^ 39) % 2 ^ 39 := by
    rw [toNat_withSign, toNat_shiftLeft_one]
    omega
  simp only [lowValues, plsStep, doublePair, sval_shiftLeft_or_bit, htop, hlow]
  rfl

/-- Rule R172 holds MQ's sign. -/
theorem sign_plsStep_mq (p : Pair) : sign (plsStep p).mq = sign p.mq :=
  sign_withSign _ _

/-- Writing the quotient bit after a doubling adds 1, for the doubling leaves MQ even. -/
theorem lowValues_plsStep_or_one (p : Pair) :
    lowValues { plsStep p with mq := (plsStep p).mq ||| 1 } =
      ((lowValues (plsStep p)).1, (lowValues (plsStep p)).2 + 1) := by
  have heven : (plsStep p).mq.toNat % 2 = 0 := by
    rw [plsStep, toNat_withSign, toNat_shiftLeft_one]
    omega
  have hone : ((plsStep p).mq ||| 1).toNat = (plsStep p).mq.toNat + 1 :=
    toNat_or_bitWord heven true
  simp only [lowValues, hone, Prod.mk.injEq, true_and]
  omega

theorem sign_or_one (v : Word) : sign (v ||| 1) = sign v := by
  rw [sign, BitVec.getLsbD_or]
  exact Bool.or_false _

/-- The test of rule R145, on the signed values: the trial difference has the divisor's sign. -/
theorem trialSign_iff (x a : Word) :
    (sign (a + comp x) == sign x) = true ↔ (wrapSigned (sval a - sval x) < 0 ↔ sval x < 0) := by
  rw [beq_iff_eq, Bool.eq_iff_iff, sign_eq_true_iff, sign_eq_true_iff, sval_add_comp]

/-- A trial that goes: the difference is kept and, after the doubling, the quotient bit written. -/
theorem divStep_of_go {x : Word} {p : Pair} (hgo : (sign (p.a + comp x) == sign x) = true) :
    divStep false x p =
      { plsStep ⟨p.a + comp x, p.mq⟩ with mq := (plsStep ⟨p.a + comp x, p.mq⟩).mq ||| 1 } := by
  simp only [divStep, Bool.false_eq_true, if_false, hgo, if_true]

/-- A trial that does not go is a doubling. -/
theorem divStep_of_not_go {x : Word} {p : Pair} (hgo : ¬(sign (p.a + comp x) == sign x) = true) :
    divStep false x p = plsStep p := by
  simp only [divStep, Bool.false_eq_true, if_false, hgo]

/-- One trial of rule R145, with its test as the two cases. -/
theorem divStep_semiconj (x : Word) :
    Function.Semiconj lowValues (divStep false x) (divideRound (sval x)) := by
  intro p
  have htest := trialSign_iff x p.a
  unfold divideRound
  by_cases hgo : (sign (p.a + comp x) == sign x) = true
  · rw [divStep_of_go hgo, lowValues_plsStep_or_one, lowValues_plsStep, lowValues, sval_add_comp]
    exact (if_pos (htest.mp hgo)).symm
  · rw [divStep_of_not_go hgo, lowValues_plsStep]
    exact (if_neg (mt htest.mpr hgo)).symm

/-- No trial changes MQ's sign. -/
theorem sign_divStep_mq (x : Word) (p : Pair) : sign (divStep false x p).mq = sign p.mq := by
  by_cases hgo : (sign (p.a + comp x) == sign x) = true
  · rw [divStep_of_go hgo, sign_or_one, sign_plsStep_mq]
  · rw [divStep_of_not_go hgo, sign_plsStep_mq]

/-- Trials keep the quotient sign the prologue wrote. -/
theorem sign_repeatStep_divStep_mq (x : Word) (n : Nat) (p : Pair) :
    sign (repeatStep (divStep false x) n p).mq = sign p.mq := by
  induction n generalizing p with
  | zero => rfl
  | succ n ih => exact (ih _).trans (sign_divStep_mq x p)

/-- Rule R145's last step: A alone is halved, and MQ's sign joins its low bits. -/
theorem pairValues_halveA (q : Pair) :
    pairValues { q with a := shiftRightSigned q.a } =
      ((lowValues q).1 / 2, (lowValues q).2 + (sign q.mq).toNat * 2 ^ 39) := by
  rw [pairValues_eq_lowValues]
  simp only [lowValues, sval_shiftRightSigned]

/-- The 39 trials of rule R145 and the last shift of A, from a prologue that left the low pair `start` and the quotient
sign `b`. -/
theorem pairValues_divide_of_divStart {x : Word} {p : Pair} {start : Int × Int} {b : Bool}
    (hstart : lowValues (divStart x p) = start) (hsign : sign (divStart x p).mq = b) :
    pairValues (divide false x p) =
      ((repeatStep (divideRound (sval x)) 39 start).1 / 2,
        (repeatStep (divideRound (sval x)) 39 start).2 + b.toNat * 2 ^ 39) := by
  simp only [divide]
  rw [pairValues_halveA, repeatStep_semiconj (divStep_semiconj x), sign_repeatStep_divStep_mq,
    hstart, hsign]

/-- Writing MQ's sign keeps the low pair. -/
theorem lowValues_withSign (a mq : Word) (b : Bool) :
    lowValues ⟨a, withSign mq b⟩ = (sval a, (mq.toNat : Int) % 2 ^ 39) := by
  have hmq : (withSign mq b).toNat % 2 ^ 39 = mq.toNat % 2 ^ 39 := by
    rw [toNat_withSign]
    omega
  rw [lowValues, hmq]
  rfl

/-- Rule R145 over the integers. -/
theorem pairValues_divide (x : Word) (p : Pair) :
    pairValues (divide false x p) = divideExact (sval x) (pairValues p) := by
  have hxor : (sign x ^^ sign p.a) = true ↔ ¬(sval x < 0 ↔ sval p.a < 0) := by
    rw [← sign_eq_true_iff, ← sign_eq_true_iff, ← Bool.eq_iff_iff, bne_iff_ne]
  unfold divideExact
  by_cases hsame : sval x < 0 ↔ sval p.a < 0
  · have hprologue : divStart x p = plsStep ⟨p.a, withSign p.mq false⟩ := by
      rw [divStart, if_neg (mt hxor.mp (not_not_intro hsame))]
    rw [pairValues_divide_of_divStart (b := false)
      (by rw [hprologue, lowValues_plsStep, lowValues_withSign])
      (by rw [hprologue, sign_plsStep_mq, sign_withSign])]
    simp [hsame, pairValues]
  · have hprologue : divStart x p = plsStep ⟨p.a + x, withSign p.mq true⟩ := by
      rw [divStart, if_pos (hxor.mpr hsame)]
    rw [pairValues_divide_of_divStart (b := true)
      (by rw [hprologue, lowValues_plsStep, lowValues_withSign, sval_add])
      (by rw [hprologue, sign_plsStep_mq, sign_withSign])]
    simp [hsame, pairValues]

/-! ### Zeros and corner values -/

/-- Rule R141: a multiplier 0 leaves every round without an addition. -/
theorem multiply_zero_multiplier (x : Word) : multiply false x ⟨0, 0⟩ = ⟨0, 0⟩ := by
  have hround : mulStep false x ⟨0, 0⟩ = ⟨0, 0⟩ := by
    simp [mulStep, shiftRightSigned, bitWord, sign]
  have hrounds : repeatStep (mulStep false x) 39 ⟨0, 0⟩ = ⟨0, 0⟩ := by
    rw [repeatStep_eq_iterate]
    exact Function.iterate_fixed hround 39
  rw [multiply, hrounds]
  rfl

theorem repeatStep_shiftRight_one (n : Nat) (v : Word) :
    repeatStep (fun q : Word => q >>> 1) n v = v >>> n := by
  induction n generalizing v with
  | zero => exact (BitVec.ushiftRight_zero v).symm
  | succ n ih =>
    rw [Nat.add_comm, BitVec.shiftRight_add, ← ih, Nat.add_comm]
    rfl

/-- Rule R141: with a multiplicand 0 each round shifts MQ alone, and 40 shifts empty it. -/
theorem multiply_zero_multiplicand (mq : Word) : multiply false 0 ⟨0, mq⟩ = ⟨0, 0⟩ := by
  have hround : Function.Semiconj (Pair.mk 0) (fun q : Word => q >>> 1) (mulStep false 0) := by
    intro q
    simp [mulStep, shiftRightSigned, bitWord, sign]
  have hrounds : repeatStep (mulStep false 0) 39 ⟨0, mq⟩ = ⟨0, mq >>> 39⟩ := by
    rw [← repeatStep_semiconj hround, repeatStep_shiftRight_one]
  have hempty : mq >>> 39 >>> 1 = 0 := by
    rw [← BitVec.shiftRight_add]
    exact BitVec.ushiftRight_eq_zero le_rfl
  have hcorrection : (0 : Word) + comp 0 = 0 := rfl
  simp only [multiply, hrounds, hempty, hcorrection, Bool.false_eq_true, if_false, ite_self]

/-- The rows of rule R141 outside the multiply law's domain; all of them start with A = 0. -/
theorem multiply_corners :
    ∀ c ∈ multiplyCorners, c.a0 = 0 ∧ multiply false c.nr ⟨c.a0, c.mq0⟩ = ⟨c.a, c.mq⟩ := by
  decide +kernel

/-- The rows of rule R146 outside the divide law's domain. -/
theorem divide_corners :
    ∀ c ∈ divideCorners, divide false c.nr ⟨c.a0, c.mq0⟩ = ⟨c.a, c.mq⟩ := by
  decide +kernel

/-! ### The instructions -/

@[simp] theorem memRead_clearMq (s : State) (addr : Addr) :
    memRead (clearMq s) addr = memRead s addr := memRead_congr rfl rfl addr

theorem exec_m (addr : Addr) (s : State) :
    exec (.m addr) s =
      withOperand addr (clearA s) fun x => complete (mulCore false x (clearA s)) := rfl

theorem exec_ma (addr : Addr) (s : State) :
    exec (.ma addr) s = withOperand addr s fun x => complete (mulCore false x s) := rfl

theorem exec_d (addr : Addr) (s : State) :
    exec (.d addr) s = withOperand addr s fun x => complete (divCore false x s) := rfl

theorem exec_ds (addr : Addr) (s : State) :
    exec (.ds addr) s =
      withOperand addr (clearMq s) fun x => complete (divCore false x (clearMq s)) := rfl

section
variable {addr : Addr} {s : State} {x : Word}

/-- M with a readable operand multiplies from A = 0. -/
theorem exec_m_of_read (hx : memRead s addr = some x) :
    exec (.m addr) s =
      .next (advance (setPair (multiply false x ⟨0, s.mq⟩) { s with nr := x })) := by
  rw [← memRead_clearA] at hx
  exact (exec_m addr s).trans (withOperand_some hx _)

theorem exec_ma_of_read (hx : memRead s addr = some x) :
    exec (.ma addr) s =
      .next (advance (setPair (multiply false x ⟨s.a, s.mq⟩) { s with nr := x })) :=
  (exec_ma addr s).trans (withOperand_some hx _)

theorem exec_d_of_read (hx : memRead s addr = some x) :
    exec (.d addr) s =
      .next (advance (setPair (divide false x ⟨s.a, s.mq⟩) { s with nr := x })) :=
  (exec_d addr s).trans (withOperand_some hx _)

/-- DS with a readable operand divides from MQ = 0. -/
theorem exec_ds_of_read (hx : memRead s addr = some x) :
    exec (.ds addr) s =
      .next (advance (setPair (divide false x ⟨s.a, 0⟩) { s with nr := x })) := by
  rw [← memRead_clearMq] at hx
  exact (exec_ds addr s).trans (withOperand_some hx _)

end

/-- Settles O38. Each instruction with a readable operand runs its routine on the pair, whose integers are those of
`multiplyExact` or `divideExact`; the corner rows are run, and a fault comes after M's clear of A and DS's of MQ. -/
theorem multiplyAndDivideOnEveryOperand : Obligations.MultiplyAndDivideOnEveryOperand := by
  intro addr s
  refine ⟨fun x hx => ⟨?m, ?ma, ?d, ?ds, ?zero, ?multiplyCorner, ?divideCorner⟩,
    fun hnone => ⟨?mFault, ?maFault, ?dFault, ?dsFault⟩⟩
  case m => rw [exec_m_of_read hx, ← withProduct_pairValues, pairValues_multiply]; rfl
  case ma => rw [exec_ma_of_read hx, ← withProduct_pairValues, pairValues_multiply]; rfl
  case d => rw [exec_d_of_read hx, ← withProduct_pairValues, pairValues_divide]; rfl
  case ds => rw [exec_ds_of_read hx, ← withProduct_pairValues, pairValues_divide]; rfl
  case zero =>
    intro hzero
    have hproduct : multiply false x ⟨0, s.mq⟩ = ⟨0, 0⟩ := by
      obtain hmq | rfl := hzero
      · rw [hmq, multiply_zero_multiplier]
      · exact multiply_zero_multiplicand s.mq
    rw [exec_m_of_read hx, hproduct]
    rfl
  case multiplyCorner =>
    intro c hc hmq hnr
    obtain ⟨ha0, hproduct⟩ := multiply_corners c hc
    rw [← hmq, ← hnr] at hproduct
    refine ⟨?_, fun ha => ?_⟩
    · rw [exec_m_of_read hx, ← ha0, hproduct]
      rfl
    · rw [exec_ma_of_read hx, ha, hproduct]
      rfl
  case divideCorner =>
    intro c hc ha hmq hnr
    have hquotient := divide_corners c hc
    rw [← ha, ← hmq, ← hnr] at hquotient
    rw [exec_d_of_read hx, hquotient]
    rfl
  case mFault =>
    rw [← memRead_clearA] at hnone
    exact (exec_m addr s).trans (withOperand_none hnone _)
  case maFault => exact (exec_ma addr s).trans (withOperand_none hnone _)
  case dFault => exact (exec_d addr s).trans (withOperand_none hnone _)
  case dsFault =>
    rw [← memRead_clearMq] at hnone
    exact (exec_ds addr s).trans (withOperand_none hnone _)

end Sys2Proof.Machine
end

section
/-! The circular shifts (spec/43_shift.md rules R173, R178, R179): one step of the pair is one rotation of the 80-bit ring
A:MQ, so n steps rotate the ring by n; 40 exchanges its halves and 80 is a whole turn. -/

namespace Sys2Proof.Machine

/-! ### Rotations of a word of any width -/

theorem rotateLeft_zero {w : Nat} (y : BitVec w) : y.rotateLeft 0 = y := by
  simp [BitVec.rotateLeft_def, BitVec.ushiftRight_eq_zero]

theorem rotateLeft_rotateLeft {w : Nat} (y : BitVec w) (m n : Nat) :
    (y.rotateLeft m).rotateLeft n = y.rotateLeft (m + n) := by
  apply BitVec.eq_of_getMsbD_eq
  intro i hi
  have hturn : (n + i) % w < w := Nat.mod_lt _ (by omega)
  have hindex : (m + (n + i) % w) % w = (m + n + i) % w := by
    rw [Nat.add_mod_mod, Nat.add_assoc]
  simp [BitVec.getMsbD_rotateLeft, hturn, hindex]

theorem repeatStep_rotateLeft_one {w : Nat} (n : Nat) (y : BitVec w) :
    repeatStep (fun z : BitVec w => z.rotateLeft 1) n y = y.rotateLeft n := by
  induction n generalizing y with
  | zero => exact (rotateLeft_zero y).symm
  | succ n ih => rw [repeatStep, ih, rotateLeft_rotateLeft, Nat.add_comm]

/-! ### The ring -/

/-- A:MQ as the 80-bit ring of rule R173, A above MQ. -/
def ring (p : Pair) : BitVec 80 := p.a ++ p.mq

/-- The ring's halves are the registers. -/
theorem ring_injective : Function.Injective ring := by
  intro p q h
  have hhigh := congrArg (BitVec.extractLsb' 40 40) h
  have hlow := congrArg (BitVec.extractLsb' 0 40) h
  simp only [ring, BitVec.extractLsb'_append_eq_left, BitVec.extractLsb'_append_eq_right]
    at hhigh hlow
  exact congrArg₂ Pair.mk hhigh hlow

theorem getLsbD_bitWord (b : Bool) (i : Nat) : (bitWord b).getLsbD i = (decide (i = 0) && b) := by
  cases b <;> simp [bitWord, BitVec.getLsbD_one]

/-- A register's left shift that takes in a bit at the bottom (rule R173), bit by bit. -/
theorem getLsbD_shiftLeft_or_bit (v : Word) (b : Bool) {i : Nat} (hi : i < 40) :
    ((v <<< 1) ||| bitWord b).getLsbD i = if i = 0 then b else v.getLsbD (i - 1) := by
  rw [BitVec.getLsbD_or, BitVec.getLsbD_shiftLeft, getLsbD_bitWord]
  by_cases hzero : i = 0
  · simp [hzero]
  · simp [hzero, hi]

/-- Rule R173: each register's top bit enters the bottom of the other, which is one rotation of the ring. -/
theorem ring_clsStep :
    Function.Semiconj ring clsStep (fun y : BitVec 80 => y.rotateLeft 1) := by
  intro p
  apply BitVec.eq_of_getLsbD_eq
  intro i hi
  simp only [ring, clsStep, sign, BitVec.getLsbD_rotateLeft, BitVec.getLsbD_append]
  by_cases hmq : i < 40
  · rw [if_pos hmq, getLsbD_shiftLeft_or_bit _ _ hmq]
    by_cases hbottom : i = 0
    · simp [hbottom]
    · simp [hbottom, hi, show i - 1 < 40 by omega]
  · rw [if_neg hmq, getLsbD_shiftLeft_or_bit _ _ (by omega)]
    by_cases hbottom : i = 40
    · simp [hbottom]
    · simp [hi, show i ≠ 0 by omega, show ¬i - 40 = 0 by omega, show ¬i - 1 < 40 by omega,
        Nat.sub_right_comm i 40 1]

/-- A rotation by the width of a register exchanges the halves. -/
theorem ring_rotateLeft_40 (a mq : Word) : (ring ⟨a, mq⟩).rotateLeft 40 = ring ⟨mq, a⟩ := by
  apply BitVec.eq_of_getLsbD_eq
  intro i hi
  simp only [ring, BitVec.getLsbD_rotateLeft, BitVec.getLsbD_append]
  by_cases hlow : i < 40
  · simp [hlow]
  · simp [hlow, hi, show i - 40 < 40 by omega]

theorem ring_repeatStep_clsStep (n : Nat) (p : Pair) :
    ring (repeatStep clsStep n p) = (ring p).rotateLeft n := by
  rw [repeatStep_semiconj ring_clsStep, repeatStep_rotateLeft_one]

theorem repeatStep_clsStep_40 (a mq : Word) : repeatStep clsStep 40 ⟨a, mq⟩ = ⟨mq, a⟩ := by
  apply ring_injective
  rw [ring_repeatStep_clsStep, ring_rotateLeft_40]

/-- 80 steps are a whole turn. -/
theorem repeatStep_clsStep_80 (p : Pair) : repeatStep clsStep 80 p = p := by
  apply ring_injective
  rw [ring_repeatStep_clsStep, ← BitVec.rotateLeft_mod_eq_rotateLeft, Nat.mod_self,
    rotateLeft_zero]

/-! ### The instructions -/

section
variable (addr : Addr) (s : State) {q : Pair}

/-- CLH leaves the pair that its steps make of A and MQ (rule R179). -/
theorem exec_clh_of_steps (hq : repeatStep clsStep addr.toNat ⟨s.a, s.mq⟩ = q) :
    ∃ v, exec (.clh addr) s = .next (advance (withAnyNr v { s with a := q.a, mq := q.mq })) := by
  subst hq
  exact ⟨Config.nrDraw s.draws, rfl⟩

/-- CLC leaves the pair that its steps make of A and a cleared MQ (rule R178). -/
theorem exec_clc_of_steps (hq : repeatStep clsStep addr.toNat ⟨s.a, 0⟩ = q) :
    ∃ v, exec (.clc addr) s = .next (advance (withAnyNr v { s with a := q.a, mq := q.mq })) := by
  subst hq
  exact ⟨Config.nrDraw s.draws, rfl⟩

end

/-- Settles O44. Both instructions leave what 40 or 80 steps make of the pair; CLC starts them from MQ = 0. -/
theorem circularShiftBy40SwapsAndBy80IsTheIdentity :
    Obligations.CircularShiftBy40SwapsAndBy80IsTheIdentity := by
  intro s
  refine ⟨?clh40, ?clh80, ?clc40, ?clc80⟩
  case clh40 => exact exec_clh_of_steps 40 s (repeatStep_clsStep_40 s.a s.mq)
  case clh80 => exact exec_clh_of_steps 80 s (repeatStep_clsStep_80 ⟨s.a, s.mq⟩)
  case clc40 => exact exec_clc_of_steps 40 s (repeatStep_clsStep_40 s.a 0)
  case clc80 => exact exec_clc_of_steps 80 s (repeatStep_clsStep_80 ⟨s.a, 0⟩)

end Sys2Proof.Machine
end

section
/-! The sequencer (spec/44_sequencer.md): the step of a running machine whose word decodes, and how an instruction may
leave NIR, CC, HALTED and the fault record. -/

namespace Sys2Proof.Machine

/-! ### The running step -/

/-- A machine with no fault record, no pending request and HALTED false runs a half (rule R207). -/
theorem step_of_running {s : State} (hf : s.fault = none) (hp : s.mtcPending = none)
    (hh : s.halted = false) : step s = runHalf exec s := by
  simp [step, hf, hp, hh]

/-- A word that decodes to an instruction is dispatched with IR loaded (rules R201, R202). -/
theorem runHalf_of_instr {s : State} {w : Word} {i : Instr} (run : Instr → State → Outcome)
    (hw : memRead s s.nir = some w) (hd : decodeFetched w s = .instr i) :
    runHalf run s = run i (loadIr w s) := by
  simp only [runHalf, hw, hd]

/-- Settles O9. The half that the statement selects by CC is the one the fetch decodes. -/
theorem stepRunsTheDecodedHalf : Obligations.StepRunsTheDecodedHalf := by
  intro s w i hf hp hh hw hdecode
  have hd : decodeFetched w s = .instr i := hdecode
  exact (step_of_running hf hp hh).trans (runHalf_of_instr exec hw hd)

/-! ### What the sequencer reads of a state -/

/-- The fault record, HALTED, NIR and CC: what says which half runs next, if one does. -/
def sequencer (s : State) : Option FaultRecord × Bool × Addr × Half :=
  (s.fault, s.halted, s.nir, s.cc)

theorem sequencer_eq_iff {u s : State} :
    sequencer u = sequencer s ↔
      u.fault = s.fault ∧ u.halted = s.halted ∧ u.nir = s.nir ∧ u.cc = s.cc := by
  simp [sequencer]

/-- The advance goes to a half that NIR and CC alone name (rule R203). -/
theorem advance_target_congr {u s : State} (hnir : u.nir = s.nir) (hcc : u.cc = s.cc) :
    (advance u).nir = (advance s).nir ∧ (advance u).cc = (advance s).cc := by
  cases hs : s.cc with
  | left => simp [advance_from_left, hcc, hs, hnir]
  | right => simp [advance_from_right, hcc, hs, hnir]

/-! ### The ends of an instruction -/

/-- How an instruction at the half of `s` may end: in a state `u` that it has worked on without touching the sequencer,
it advances, transfers, halts or records a fault (rule R211), or it is refused (rule R310). -/
inductive EndsHalf (i : Instr) (s : State) : Outcome → Prop
  | advances {u : State} (hu : sequencer u = sequencer s) : EndsHalf i s (.next (advance u))
  | transfers {u : State} (hu : sequencer u = sequencer s) (hi : i.mnemonic ∈ transfers) :
      EndsHalf i s (.next (jumpTo i.addr (namedHalf i.mnemonic) u))
  | halts {u : State} (hu : sequencer u = sequencer s) (hi : i.mnemonic ∈ halts) :
      EndsHalf i s (.next (jumpTo i.addr (namedHalf i.mnemonic) { u with halted := true }))
  | faults {u : State} (hu : sequencer u = sequencer s) (f : FaultKind) :
      EndsHalf i s (.next (recordFault f u))
  | refused (op : TypewriterOp) : EndsHalf i s (.refused (.typewriterOp op))

section
variable {i : Instr} {s u : State}

theorem endsHalf_withOperand {addr : Addr} {k : Word → Outcome} (hu : sequencer u = sequencer s)
    (hk : ∀ x, EndsHalf i s (k x)) : EndsHalf i s (withOperand addr u k) := by
  obtain ⟨x, -, heq⟩ | ⟨-, heq⟩ := withOperand_cases addr u k
  · exact heq ▸ hk x
  · exact heq ▸ .faults hu _

theorem endsHalf_transferIf {cond : Bool} {h : Half} (hu : sequencer u = sequencer s)
    (hi : i.mnemonic ∈ transfers) (hh : namedHalf i.mnemonic = h) :
    EndsHalf i s (transferIf cond i.addr h u) := by
  subst hh
  cases cond with
  | true => exact .transfers (u := drawNr u) hu hi
  | false => exact .advances (u := drawNr u) hu

theorem endsHalf_haltIf {cond : Bool} {h : Half} (hu : sequencer u = sequencer s)
    (hi : i.mnemonic ∈ halts) (hh : namedHalf i.mnemonic = h) :
    EndsHalf i s (haltIf cond i.addr h u) := by
  subst hh
  cases cond with
  | true => exact .halts (u := drawNr u) hu hi
  | false => exact .advances (u := drawNr u) hu

/-- C faults on its device or on an empty deck, or copies a card and advances (rule R301). -/
theorem endsHalf_execC (addr : Addr) : EndsHalf i s (execC addr s) := by
  unfold execC
  split
  · split
    · exact .faults rfl _
    · exact .advances rfl
  · exact .faults rfl _

end

/-! ### Block transfers -/

/-- The state in which a block transfer's loop ends, with or without a fault. -/
def BlockEnd.state : BlockEnd → State
  | .moved s => s
  | .raised _ s => s

theorem sequencer_readBlock (unit : DrumUnit) (k : Nat) (d m : Addr) (s : State) :
    sequencer (readBlock unit k d m s).state = sequencer s := by
  induction k generalizing d m s with
  | zero => rfl
  | succ k ih =>
    unfold readBlock
    split
    · rfl
    · exact ih _ _ _

theorem sequencer_writeBlock (unit : DrumUnit) (k : Nat) (d m : Addr) (s : State) :
    sequencer (writeBlock unit k d m s).state = sequencer s := by
  induction k generalizing d m s with
  | zero => rfl
  | succ k ih =>
    unfold writeBlock
    split
    · rfl
    · split
      · rfl
      · next hset =>
        obtain ⟨-, rfl⟩ := drumSet_eq_some hset
        exact ih _ _ _

theorem endsHalf_finishBlock {i : Instr} {s : State} {e : BlockEnd}
    (he : sequencer e.state = sequencer s) : EndsHalf i s (finishBlock e) := by
  cases e with
  | moved u => exact .advances (u := drawNr u) he
  | raised f u => exact .faults he f

/-! ### Every instruction -/

/-- Everything an instruction can do to the sequencer. -/
theorem exec_endsHalf (i : Instr) (s : State) : EndsHalf i s (exec i s) := by
  cases i with
  | a | s | ra | rs | rsv | pi | ni | lm | m | ma | d | ds | sal | sor | sar | sab =>
    exact endsHalf_withOperand rfl fun _ => .advances rfl
  | lrc | lrh | llh | clc | clh | src | srh | stq | snq | aqs | sqs | snv | sel
  | clear1 | clear2 | clear3 | clear4 => exact .advances rfl
  -- The unconditional transfers and halts (rules R235, R236, R243, R244) never advance.
  | trl | trr => exact .transfers (u := drawNr s) rfl (by simp [Instr.mnemonic, transfers])
  | tnl | tnr | tpl | tpr | t1l | t1r | t2l | t2r | t3l | t3r =>
    exact endsHalf_transferIf rfl (by simp [Instr.mnemonic, transfers]) rfl
  | htl | htr => exact .halts (u := drawNr s) rfl (by simp [Instr.mnemonic, halts])
  | h1l | h1r | h2l | h2r | h3l | h3r =>
    exact endsHalf_haltIf rfl (by simp [Instr.mnemonic, halts]) rfl
  | c addr => exact endsHalf_execC addr
  | rd => exact endsHalf_finishBlock (sequencer_readBlock ..)
  | wd => exact endsHalf_finishBlock (sequencer_writeBlock ..)
  | writeLineBuffer | readLineBuffer | writeScr | readScr | matchScr | mismatchScr =>
    exact .refused _

/-- Settles O16. Each end of an instruction is read off in a state whose sequencer is still that of the half. -/
theorem anInstructionHasOneOfFourOutcomes : Obligations.AnInstructionHasOneOfFourOutcomes := by
  intro i s t hfault hhalted hexec
  have hends : EndsHalf i s (.next t) := hexec ▸ exec_endsHalf i s
  cases hends with
  | advances hu =>
    obtain ⟨hf, hh, hnir, hcc⟩ := sequencer_eq_iff.mp hu
    obtain ⟨htarget, hhalf⟩ := advance_target_congr hnir hcc
    exact .inl ⟨by simp [hf, hfault], by simp [hh, hhalted], htarget, hhalf⟩
  | transfers hu hi =>
    obtain ⟨hf, hh, -, -⟩ := sequencer_eq_iff.mp hu
    exact .inr (.inl ⟨hf.trans hfault, hh.trans hhalted, rfl, rfl, hi⟩)
  | halts hu hi =>
    obtain ⟨hf, -, -, -⟩ := sequencer_eq_iff.mp hu
    exact .inr (.inr (.inl ⟨hf.trans hfault, rfl, rfl, rfl, hi⟩))
  | faults hu f =>
    obtain ⟨-, hh, hnir, hcc⟩ := sequencer_eq_iff.mp hu
    exact .inr (.inr (.inr ⟨f, by simp [hnir, hcc], hh.trans hhalted, hnir, hcc⟩))

end Sys2Proof.Machine
end

section
/-! Transfers and halts (spec/45_transfer_halt.md): the two shared ends of rule R230 in one form over the state, and
which of them, with which condition and half, each instruction is. -/

namespace Sys2Proof.Machine

/-! ### The draws -/

/-- A switch read before the draw for NR counts a draw of its own (log entry 9). -/
theorem withAnyNr_countDraw (v : Word) (s : State) :
    withAnyNr v (countDraw s) = { s with nr := v, draws := s.draws + 2 } := rfl

/-! ### The shared ends -/

section
variable (cond : Bool) (addr : Addr) (h : Half) (s : State)

/-- A transfer writes NIR and CC or advances, with NR drawn either way (rule R230, decision D7). -/
theorem transferIf_eq_withAnyNr :
    transferIf cond addr h s =
      .next (if cond then { withAnyNr (Config.nrDraw s.draws) s with nir := addr, cc := h }
        else advance (withAnyNr (Config.nrDraw s.draws) s)) :=
  transferIf_eq cond addr h s

/-- A halt sets HALTED as well where it acts (rule R230). -/
theorem haltIf_eq_withAnyNr :
    haltIf cond addr h s =
      .next (if cond
        then { withAnyNr (Config.nrDraw s.draws) s with halted := true, nir := addr, cc := h }
        else advance (withAnyNr (Config.nrDraw s.draws) s)) :=
  haltIf_eq cond addr h s

end

/-! ### The instructions -/

/-- Settles O46. Each of the six is a transfer on the condition and half of its table row. -/
theorem transfersOnTheSignOfA : Obligations.TransfersOnTheSignOfA := by
  intro addr s p hp
  have harm : exec p.1 s = transferIf p.2.1 addr p.2.2 s := by
    simp only [List.mem_cons, List.not_mem_nil, or_false] at hp
    obtain rfl | rfl | rfl | rfl | rfl | rfl := hp <;> rfl
  exact ⟨Config.nrDraw s.draws, harm.trans (transferIf_eq_withAnyNr ..)⟩

/-- Settles O47. The condition is the switch as it reads before its draw is counted, so two draws are counted. -/
theorem transfersOnTheTSwitches : Obligations.TransfersOnTheTSwitches := by
  intro addr s p hp
  have harm : exec p.1 s = transferIf (switchValue p.2.1 s) addr p.2.2 (countDraw s) := by
    simp only [List.mem_cons, List.not_mem_nil, or_false] at hp
    obtain rfl | rfl | rfl | rfl | rfl | rfl := hp <;> rfl
  rw [transferIf_eq_withAnyNr, withAnyNr_countDraw] at harm
  exact ⟨Config.nrDraw (countDraw s).draws, harm⟩

/-- Settles O48. HTL and HTR are halts on a condition that always holds; the other six read their switch first. -/
theorem haltInstructions : Obligations.HaltInstructions := by
  intro addr s
  refine ⟨?always, ?onSwitch⟩
  case always =>
    intro p hp
    have harm : exec p.1 s = haltIf true addr p.2 s := by
      simp only [List.mem_cons, List.not_mem_nil, or_false] at hp
      obtain rfl | rfl := hp <;> rfl
    rw [haltIf_eq_withAnyNr, if_pos rfl] at harm
    exact ⟨Config.nrDraw s.draws, harm⟩
  case onSwitch =>
    intro p hp
    have harm : exec p.1 s = haltIf (switchValue p.2.1 s) addr p.2.2 (countDraw s) := by
      simp only [List.mem_cons, List.not_mem_nil, or_false] at hp
      obtain rfl | rfl | rfl | rfl | rfl | rfl := hp <;> rfl
    rw [haltIf_eq_withAnyNr, withAnyNr_countDraw] at harm
    exact ⟨Config.nrDraw (countDraw s).draws, harm⟩

end Sys2Proof.Machine
end

section
/-! Stores (spec/46_stores.md): the partial stores as one merge under a mask, and the MQ stores as one store of A after
an addition or a subtraction. -/

namespace Sys2Proof.Machine

/-! ### The partial stores -/

/-- Rule R270's merge, bit by bit: the new word where the mask is set, the old one elsewhere. -/
theorem getLsbD_mergeMasked (old new m : Word) {k : Nat} (hk : k < 40) :
    (mergeMasked old new m).getLsbD k = if m.getLsbD k then new.getLsbD k else old.getLsbD k := by
  simp only [mergeMasked, BitVec.getLsbD_or, BitVec.getLsbD_and, BitVec.getLsbD_not, hk]
  cases m.getLsbD k <;> simp

/-- The mask is set at the bits of the ranges, both ends included, and at no other (rule R270). -/
def MaskCovers (m : Word) (ranges : List (Nat × Nat)) : Prop :=
  ∀ k < 40, m.getLsbD k = ranges.any fun r => r.1 ≤ k && k ≤ r.2

theorem maskSAL_covers : MaskCovers maskSAL [(20, 32)] := by
  unfold MaskCovers
  decide

theorem maskSOR_covers : MaskCovers maskSOR [(12, 19)] := by
  unfold MaskCovers
  decide

theorem maskSAR_covers : MaskCovers maskSAR [(0, 11)] := by
  unfold MaskCovers
  decide

theorem maskSAB_covers : MaskCovers maskSAB [(20, 32), (0, 11)] := by
  unfold MaskCovers
  decide

/-- A merge under a mask takes the new word's bits in the mask's ranges. -/
theorem MaskCovers.getLsbD_merge {m : Word} {ranges : List (Nat × Nat)} (hm : MaskCovers m ranges)
    (old new : Word) {k : Nat} (hk : k < 40) :
    (mergeMasked old new m).getLsbD k =
      if ranges.any (fun r => r.1 ≤ k && k ≤ r.2) then new.getLsbD k else old.getLsbD k := by
  rw [getLsbD_mergeMasked old new m hk, hm k hk]

theorem partialStore_of_read {addr : Addr} {s : State} {w : Word} (hw : memRead s addr = some w)
    (m : Word) :
    partialStore m addr s =
      .next (advance (withAnyNr (Config.nrDraw s.draws)
        { s with mem := storePut addr.toNat (mergeMasked w s.a m) s.mem })) :=
  withOperand_some hw _

theorem partialStore_of_unwritten {addr : Addr} {s : State} (hnone : memRead s addr = none)
    (m : Word) : partialStore m addr s = .next (recordFault (.unwrittenRead addr) s) :=
  withOperand_none hnone _

/-- Settles O49. Each of the four is the partial store of rule R270 under the mask of its ranges. -/
theorem partialStoresWriteTheirBitsOnly : Obligations.PartialStoresWriteTheirBitsOnly := by
  intro addr s p hp
  have harm : ∃ m, exec p.1 s = partialStore m addr s ∧ MaskCovers m p.2 := by
    simp only [List.mem_cons, List.not_mem_nil, or_false] at hp
    obtain rfl | rfl | rfl | rfl := hp
    · exact ⟨maskSAL, rfl, maskSAL_covers⟩
    · exact ⟨maskSOR, rfl, maskSOR_covers⟩
    · exact ⟨maskSAR, rfl, maskSAR_covers⟩
    · exact ⟨maskSAB, rfl, maskSAB_covers⟩
  obtain ⟨m, hexec, hm⟩ := harm
  rw [hexec]
  refine ⟨fun w hw => ?_, fun hnone => partialStore_of_unwritten hnone m⟩
  exact ⟨Config.nrDraw s.draws, mergeMasked w s.a m, partialStore_of_read hw m,
    fun k hk => hm.getLsbD_merge w s.a hk⟩

/-! ### The MQ stores -/

theorem exec_stq (addr : Addr) (s : State) :
    exec (.stq addr) s = storeA addr (addCore s.mq false (clearA s)) := rfl

theorem exec_snq (addr : Addr) (s : State) :
    exec (.snq addr) s = storeA addr (addCore s.mq true (clearA s)) := rfl

theorem exec_aqs (addr : Addr) (s : State) :
    exec (.aqs addr) s = storeA addr (addCore s.mq false s) := rfl

theorem exec_sqs (addr : Addr) (s : State) :
    exec (.sqs addr) s = storeA addr (addCore s.mq true s) := rfl

theorem exec_snv (addr : Addr) (s : State) :
    exec (.snv addr) s = storeA addr (loadMinusMagnitude s.mq s) := rfl

/-- Adding to a cleared A loads the operand and raises no flag (rule R276). -/
theorem addCore_add_clearA (x : Word) (s : State) :
    addCore x false (clearA s) = { s with nr := x, a := x } := by
  rw [addCore_add, clearA_a, zero_saddOverflow, Bool.or_false, zero_add]
  rfl

/-- Subtracting from a cleared A loads the negation, and overflows for the operand -2^39 alone (rule R277). -/
theorem addCore_sub_clearA (x : Word) (s : State) :
    addCore x true (clearA s) =
      { s with nr := x, a := -x, ov := s.ov || (x == 0x8000000000#40) } := by
  rw [addCore_sub, clearA_a, zero_ssubOverflow, zero_sub]
  rfl

/-- Settles O50. Each of the three loads its row's value with its row's flag, and then A is stored. -/
theorem resettingMqStores : Obligations.ResettingMqStores := by
  intro addr s p hp
  have hload : exec p.1 s =
      storeA addr { s with nr := s.mq, a := p.2.1, ov := s.ov || p.2.2 } := by
    simp only [List.mem_cons, List.not_mem_nil, or_false] at hp
    obtain rfl | rfl | rfl := hp
    · rw [exec_stq, addCore_add_clearA, Bool.or_false]
    · rw [exec_snq, addCore_sub_clearA]
    · rw [exec_snv, loadMinusMagnitude_eq, Bool.or_false]
  exact hload.trans (storeA_eq addr _)

/-- Settles O51. The flags are read back as the comparisons of signs in rules R100 and R101. -/
theorem accumulatingMqStores : Obligations.AccumulatingMqStores := by
  intro addr s
  constructor
  · rw [exec_aqs, addCore_add, ← hasOverflow_add, hasOverflow_add_eq_signs, storeA_eq]
    rfl
  · rw [exec_sqs, addCore_sub, ← hasOverflow_sub, hasOverflow_sub_eq_signs, storeA_eq]
    rfl

end Sys2Proof.Machine
end

section
/-! The clear instructions and the typewriter opcodes (spec/47_io_misc.md rules R306 to R316). -/

namespace Sys2Proof.Machine

/-- Settles O59. Each of the four is the completion that draws nothing for NR (decision D28), on a cleared A. -/
theorem clearInstructionsZeroA : Obligations.ClearInstructionsZeroA := by
  intro addr s i hi
  have harm : exec i s = complete (clearA s) := by
    simp only [List.mem_cons, List.not_mem_nil, or_false] at hi
    obtain rfl | rfl | rfl | rfl := hi <;> rfl
  exact harm.trans (complete_eq (clearA s))

/-- Settles O60. The pairing of an opcode with its name is the model's own, one arm of `exec` for each row. -/
theorem typewriterOpcodesAreRefusedByName : Obligations.TypewriterOpcodesAreRefusedByName := by
  intro addr s p hp
  simp only [List.mem_cons, List.not_mem_nil, or_false] at hp
  obtain rfl | rfl | rfl | rfl | rfl | rfl := hp <;> rfl

end Sys2Proof.Machine
end

section
/-! The faults of the dispatch and of C (spec/60_exceptions.md rules R350 to R354): what raises each, and that nothing else
changes. -/

namespace Sys2Proof.Machine

/-! ### The dispatch -/

section
variable {s : State} {w : Word} {op : OpField} {addr : Addr}

/-- A code of class Unimplemented is dispatched to its fault, with IR loaded (rules R318, R351). -/
theorem runHalf_of_unimplemented {name : String} (run : Instr → State → Outcome)
    (hw : memRead s s.nir = some w) (hsel : selectHalf w s.cc = halfOf op addr)
    (hclass : s.params.opcodeMap.classOf op = .unimplemented name) :
    runHalf run s = .next (recordFault (.unimplementedOpcode op name) (loadIr w s)) := by
  have hd : decodeFetched w s = .unimplemented op name := by
    simp only [decodeFetched, hsel, decodeHalf_halfOf, hclass]
  simp only [runHalf, hw, hd, raiseFault]

/-- A code of class Unknown is dispatched to its fault, with IR loaded (rules R319, R352). -/
theorem runHalf_of_unknown (run : Instr → State → Outcome)
    (hw : memRead s s.nir = some w) (hsel : selectHalf w s.cc = halfOf op addr)
    (hclass : s.params.opcodeMap.classOf op = .unknown) :
    runHalf run s = .next (recordFault (.unknownOpcode op) (loadIr w s)) := by
  have hd : decodeFetched w s = .unknown op := by
    simp only [decodeFetched, hsel, decodeHalf_halfOf, hclass]
  simp only [runHalf, hw, hd, raiseFault]

end

/-- Settles O11. The class of the selected code decides what the dispatch of a running machine raises. -/
theorem illegalCodesFaultAtDispatch : Obligations.IllegalCodesFaultAtDispatch := by
  intro s w op name hf hp hh hw hop
  have hrun := step_of_running hf hp hh
  obtain ⟨addr, hsel⟩ : ∃ addr, selectHalf w s.cc = halfOf op addr := by
    subst hop
    cases s.cc with
    | left => exact ⟨_, rfl⟩
    | right => exact ⟨_, rfl⟩
  exact ⟨fun hclass => hrun.trans (runHalf_of_unimplemented exec hw hsel hclass),
    fun hclass => hrun.trans (runHalf_of_unknown exec hw hsel hclass)⟩

/-! ### The card reader -/

theorem exec_c (addr : Addr) (s : State) : exec (.c addr) s = execC addr s := rfl

/-- The device check comes first, whatever the deck holds (rule R353, decision D24). -/
theorem execC_of_otherDevice {addr : Addr} {s : State} (hdev : s.devsel ≠ s.params.cardFeedDevice) :
    execC addr s = .next (recordFault (.unimplementedDevice s.devsel) s) := by
  simp only [execC, if_neg hdev, raiseFault]

/-- With the card feed selected, no card left is the fault (rule R354). -/
theorem execC_of_emptyDeck {addr : Addr} {s : State} (hdev : s.devsel = s.params.cardFeedDevice)
    (hdeck : s.deck = []) : execC addr s = .next (recordFault .cardsExhausted s) := by
  simp only [execC, if_pos hdev, hdeck, raiseFault]

/-- Settles O54. Both checks precede C's first write. -/
theorem cardFaultsChangeNothing : Obligations.CardFaultsChangeNothing := by
  intro addr s
  rw [exec_c]
  exact ⟨execC_of_otherDevice, execC_of_emptyDeck⟩

end Sys2Proof.Machine
end

section
/-! WD's loop (spec/47_io_misc.md rule R305): the drum after its first words, and where it stops (spec/60_exceptions.md
rules R357, R363). -/

namespace Sys2Proof.Machine

/-! ### The drum's keys -/

theorem eq_and_eq_of_append_eq {m n : Nat} {x x' : BitVec m} {y y' : BitVec n}
    (h : x ++ y = x' ++ y') : x = x' ∧ y = y' := by
  have hhigh := congrArg (BitVec.extractLsb' n m) h
  have hlow := congrArg (BitVec.extractLsb' 0 n) h
  simp only [BitVec.extractLsb'_append_eq_left, BitVec.extractLsb'_append_eq_right] at hhigh hlow
  exact ⟨hhigh, hlow⟩

/-- Each drum index has a key of its own (rule R53). -/
theorem drumKey_inj {u u' : DrumUnit} {c c' : Addr} :
    drumKey u c = drumKey u' c' ↔ u = u' ∧ c = c' := by
  constructor
  · intro h
    obtain ⟨hunit, haddr⟩ := eq_and_eq_of_append_eq (BitVec.eq_of_toNat_eq h)
    obtain ⟨hdp, hband⟩ := eq_and_eq_of_append_eq hunit
    obtain ⟨hdrum, hposition⟩ := eq_and_eq_of_append_eq hdp
    exact ⟨(DrumUnit.mk.injEq ..).mpr ⟨hdrum, hposition, hband⟩, haddr⟩
  · rintro ⟨rfl, rfl⟩
    rfl

/-- A block has at most the 4096 words of a band (rule R303). -/
theorem drumControl_count_le (mq : Word) : (drumControl mq).count ≤ 4096 := by
  simp only [drumControl]
  split
  · have hlast := (decodeWord mq).rightAddress.isLt
    omega
  · exact Nat.zero_le _

/-- The words of a block have addresses of their own: 12-bit counting comes round only after 4096. -/
theorem add_ofNat_ne_of_lt {j n : Nat} (d : Addr) (hj : j < n) (hn : n < 4096) :
    d + BitVec.ofNat 12 j ≠ d + BitVec.ofNat 12 n := by
  bv_omega

theorem add_ofNat_succ (d : Addr) (n : Nat) :
    d + BitVec.ofNat 12 (n + 1) = d + BitVec.ofNat 12 n + 1 := by
  rw [BitVec.ofNat_add, ← BitVec.add_assoc]
  rfl

/-! ### The words moved -/

/-- `drum` is the drum of `s` with the `n` memory words from `m` on written to unit `u` from `d` on, and nothing else
(rule R305). -/
def HoldsCopied (s : State) (u : DrumUnit) (d m : Addr) (n : Nat) (drum : Store) : Prop :=
  (∀ j < n, storePeek drum (drumKey u (d + BitVec.ofNat 12 j)) =
    memRead s (m + BitVec.ofNat 12 j)) ∧
  ∀ (u' : DrumUnit) (c : Addr), (u' ≠ u ∨ ∀ j < n, c ≠ d + BitVec.ofNat 12 j) →
    storePeek drum (drumKey u' c) = storePeek s.drum (drumKey u' c)

section
variable {s : State} {u : DrumUnit} {d m : Addr} {n : Nat}

theorem holdsCopied_zero : HoldsCopied s u d m 0 s.drum :=
  ⟨fun _ hj => absurd hj (Nat.not_lt_zero _), fun _ _ _ => rfl⟩

/-- One more word copied: it takes the next drum address, which is none of those before it. -/
theorem HoldsCopied.put {drum : Store} {v : Word} (h : HoldsCopied s u d m n drum)
    (hv : memRead s (m + BitVec.ofNat 12 n) = some v) (hn : n < 4096) :
    HoldsCopied s u d m (n + 1) (storePut (drumKey u (d + BitVec.ofNat 12 n)) v drum) := by
  obtain ⟨hcopied, hkept⟩ := h
  constructor
  · intro j hj
    obtain hlt | rfl := Nat.lt_succ_iff_lt_or_eq.mp hj
    · have hne : drumKey u (d + BitVec.ofNat 12 j) ≠ drumKey u (d + BitVec.ofNat 12 n) :=
        fun hkey => add_ofNat_ne_of_lt d hlt hn (drumKey_inj.mp hkey).2
      exact (storePeek_storePut_other hne v drum).trans (hcopied j hlt)
    · exact (storePeek_storePut_same _ v drum).trans hv.symm
  · intro u' c hother
    have hne : drumKey u' c ≠ drumKey u (d + BitVec.ofNat 12 n) := by
      intro hkey
      obtain ⟨rfl, rfl⟩ := drumKey_inj.mp hkey
      exact hother.elim (· rfl) (· n n.lt_succ_self rfl)
    exact (storePeek_storePut_other hne v drum).trans
      (hkept u' c (hother.imp_right fun h j hj => h j (hj.trans n.lt_succ_self)))

/-- One turn of WD's loop on a readable word of an admitted unit. -/
theorem writeBlock_succ {v : Word} (hu : drumAdmitted s u = true) (hv : memRead s m = some v)
    (k : Nat) :
    writeBlock u (k + 1) d m s =
      writeBlock u k (d + 1) (m + 1) { s with drum := storePut (drumKey u d) v s.drum } := by
  simp only [writeBlock, hv, drumSet, if_pos hu]

/-- WD's loop stops at a word that it cannot read, before any drum call for that word (decision D26). -/
theorem writeBlock_of_unwritten (hnone : memRead s m = none) (k : Nat) :
    writeBlock u (k + 1) d m s = .raised (.unwrittenRead m) s := by
  simp only [writeBlock, hnone]

/-- WD's loop stops at a readable word for a unit that is not admitted. -/
theorem writeBlock_of_notAdmitted {v : Word} (hu : drumAdmitted s u = false)
    (hv : memRead s m = some v) (k : Nat) :
    writeBlock u (k + 1) d m s = .raised (.drumBounds u) s := by
  simp [writeBlock, hv, drumSet, hu]

/-- The loop gets past the readable words that the block begins with, with exactly those copied (decision D27). -/
theorem writeBlock_past_readable (hu : drumAdmitted s u = true) (hn : n ≤ 4096)
    (hread : ∀ j < n, memRead s (m + BitVec.ofNat 12 j) ≠ none) :
    ∃ drum, HoldsCopied s u d m n drum ∧ ∀ k,
      writeBlock u (n + k) d m s =
        writeBlock u k (d + BitVec.ofNat 12 n) (m + BitVec.ofNat 12 n) { s with drum := drum } := by
  induction n with
  | zero => exact ⟨s.drum, holdsCopied_zero, fun k => by simp⟩
  | succ n ih =>
    obtain ⟨drum, hcopied, hloop⟩ := ih (by omega) fun j hj => hread j (by omega)
    obtain ⟨v, hv⟩ := Option.ne_none_iff_exists'.mp (hread n n.lt_succ_self)
    refine ⟨_, hcopied.put hv hn, fun k => ?_⟩
    calc writeBlock u (n + 1 + k) d m s
        = writeBlock u (k + 1) (d + BitVec.ofNat 12 n) (m + BitVec.ofNat 12 n)
            { s with drum := drum } := by rw [← hloop, Nat.add_assoc, Nat.add_comm 1 k]
      _ = writeBlock u k (d + BitVec.ofNat 12 n + 1) (m + BitVec.ofNat 12 n + 1)
            { s with drum := storePut (drumKey u (d + BitVec.ofNat 12 n)) v drum } :=
          writeBlock_succ (s := { s with drum := drum }) hu hv k
      _ = writeBlock u k (d + BitVec.ofNat 12 (n + 1)) (m + BitVec.ofNat 12 (n + 1))
            { s with drum := storePut (drumKey u (d + BitVec.ofNat 12 n)) v drum } := by
          rw [add_ofNat_succ, add_ofNat_succ]

end

/-! ### WD -/

theorem exec_wd (addr : Addr) (s : State) :
    exec (.wd addr) s =
      finishBlock (writeBlock (drumControl s.mq).drumUnit (drumControl s.mq).count
        (drumControl s.mq).first addr s) := rfl

/-- Settles O58. An admitted unit takes the words before the fault; for any other the first read, then its drum call,
decides. -/
theorem drumWriteStopsAtTheFirstFault : Obligations.DrumWriteStopsAtTheFirstFault := by
  intro addr s n b hn
  obtain ⟨k, hk⟩ : ∃ k, b.count = n + (k + 1) := Nat.exists_eq_add_of_lt hn
  have hwd : exec (.wd addr) s = finishBlock (writeBlock b.drumUnit b.count b.first addr s) :=
    exec_wd addr s
  constructor
  · intro hu hnone hread
    have hle : n ≤ 4096 := hn.le.trans (drumControl_count_le s.mq)
    obtain ⟨drum, ⟨hcopied, hkept⟩, hloop⟩ :=
      writeBlock_past_readable (d := b.first) hu hle hread
    refine ⟨drum, ?_, hcopied, hkept⟩
    rw [hwd, hk, hloop, writeBlock_of_unwritten (s := { s with drum := drum }) hnone, finishBlock_eq]
    rfl
  · intro hu
    rw [hwd, hk, ← Nat.add_assoc]
    cases hv : memRead s addr with
    | none => rw [writeBlock_of_unwritten hv, finishBlock_eq]; rfl
    | some v => rw [writeBlock_of_notAdmitted hu hv, finishBlock_eq]; rfl

end Sys2Proof.Machine
end

section
/-! The decoder and the encoder (spec/30_encoding.md): a code that the map gives a mnemonic decodes to it, no other code
does where the map gives exactly one, and the padding is no part of any field. -/

namespace Sys2Proof.Machine

/-! ### The code of a mnemonic -/

theorem opField_lt_length (map : OpcodeMap) (op : OpField) : op.toNat < map.toList.length :=
  op.isLt.trans_eq Vector.length_toList.symm

/-- The map, read as a list, holds at each code's number that code's class. -/
theorem toList_getElem_eq_classOf (map : OpcodeMap) (op : OpField) :
    map.toList[op.toNat]'(opField_lt_length map op) = map.classOf op :=
  Vector.getElem_toList _

theorem gives_iff_count {map : OpcodeMap} {name : Mnemonic} :
    map.gives name = true ↔ map.toList.count (.op name) = 1 :=
  beq_iff_eq

/-- The code that rule R93 writes for a mnemonic is the mnemonic's (rule R17). -/
theorem classOf_opc {map : OpcodeMap} {name : Mnemonic} (hgives : map.gives name = true) :
    map.classOf (opc map name) = .op name := by
  have hmem : OpClass.op name ∈ map.toList :=
    List.one_le_count_iff.mp (gives_iff_count.mp hgives).ge
  have hidx : map.toList.idxOf (.op name) < map.toList.length := List.idxOf_lt_length_of_mem hmem
  have hcode : (opc map name).toNat = map.toList.idxOf (.op name) := by
    rw [Vector.length_toList] at hidx
    rw [opc, BitVec.toNat_ofNat]
    omega
  have hget := toList_getElem_eq_classOf map (opc map name)
  simp only [hcode, List.getElem_idxOf] at hget
  exact hget.symm

/-- Where the map gives a mnemonic exactly one code, two codes of its class are the same code (rule R86). -/
theorem eq_of_classOf_eq {map : OpcodeMap} {name : Mnemonic} {c c' : OpField}
    (hgives : map.gives name = true) (hc : map.classOf c = .op name)
    (hc' : map.classOf c' = .op name) : c = c' := by
  have hnoRepeat : ¬ List.Duplicate (OpClass.op name) map.toList := by
    rw [List.duplicate_iff_two_le_count, gives_iff_count.mp hgives]
    decide
  have hnotBelow : ∀ {d d' : OpField}, map.classOf d = .op name → map.classOf d' = .op name →
      ¬ d.toNat < d'.toNat := by
    intro d d' hd hd' hlt
    refine hnoRepeat (List.duplicate_iff_exists_distinct_get.mpr
      ⟨⟨d.toNat, opField_lt_length map d⟩, ⟨d'.toNat, opField_lt_length map d'⟩, hlt, ?_, ?_⟩)
    · exact ((toList_getElem_eq_classOf map d).trans hd).symm
    · exact ((toList_getElem_eq_classOf map d').trans hd').symm
  exact BitVec.eq_of_toNat_eq
    (le_antisymm (not_lt.mp (hnotBelow hc' hc)) (not_lt.mp (hnotBelow hc hc')))

/-! ### Encode and decode -/

/-- An instruction is its mnemonic and its address field (rule R84). -/
theorem instrOf_mnemonic_addr (i : Instr) : instrOf i.mnemonic i.addr = i := by
  cases i <;> rfl

/-- A half is its op field and its address field (rule R82). -/
theorem halfOf_halfOp_halfAddr (h : HalfWord) : halfOf (halfOp h) (halfAddr h) = h := by
  apply BitVec.eq_of_getLsbD_eq
  intro k hk
  rw [halfOf_getLsbD, halfAddr, halfOp, BitVec.getLsbD_extractLsb', BitVec.getLsbD_extractLsb']
  by_cases haddr : k < 12
  · simp [haddr]
  · simp [haddr, show k - 12 < 7 by omega, show 12 + (k - 12) = k by omega]

theorem decodeHalf_encodeHalf {map : OpcodeMap} {i : Instr} (hwf : i.wellFormed map = true) :
    decodeHalf map (encodeHalf map i) = .instr i := by
  rw [encodeHalf, decodeHalf_halfOf, classOf_opc hwf]
  exact congrArg Decoded.instr (instrOf_mnemonic_addr i)

/-- A half decodes to an instruction exactly where its code is of the mnemonic's class and its address is the
instruction's (rule R88). -/
theorem decodeHalf_eq_instr_iff {map : OpcodeMap} {h : HalfWord} {i : Instr} :
    decodeHalf map h = .instr i ↔
      map.classOf (halfOp h) = .op i.mnemonic ∧ halfAddr h = i.addr := by
  unfold decodeHalf
  constructor
  · intro hdecode
    split at hdecode
    · next name hclass =>
      obtain rfl : instrOf name (halfAddr h) = i := Decoded.instr.inj hdecode
      simp [hclass]
    · cases hdecode
    · cases hdecode
  · rintro ⟨hclass, haddr⟩
    simp only [hclass, haddr, instrOf_mnemonic_addr]

/-- Settles O5. The half selected from either side of the word is the half encoded, and its code is the mnemonic's. -/
theorem decodeInvertsEncode : Obligations.DecodeInvertsEncode := by
  intro map i other padding hwf
  rw [selectHalf_joinHalves, selectHalf_joinHalves]
  exact ⟨decodeHalf_encodeHalf hwf, decodeHalf_encodeHalf hwf⟩

/-- Settles O6. The half's code and the code encoded are of one class, to which the map gives one code. -/
theorem encodeInvertsDecode : Obligations.EncodeInvertsDecode := by
  intro map h i hlawful hdecode
  have hgives : map.gives i.mnemonic = true :=
    List.all_eq_true.mp hlawful i.mnemonic (mem_allMnemonics _)
  obtain ⟨hclass, haddr⟩ := decodeHalf_eq_instr_iff.mp hdecode
  rw [encodeHalf, eq_of_classOf_eq hgives (classOf_opc hgives) hclass, ← haddr,
    halfOf_halfOp_halfAddr]

/-! ### The launch's map -/

/-- The list of rule R87 has no mnemonic twice, so each stands at one row of it. -/
theorem allMnemonics_nodup : allMnemonics.Nodup := by decide

theorem allMnemonics_getElem?_eq_some_iff {name : Mnemonic} {n : Nat} :
    allMnemonics[n]? = some name ↔ n = allMnemonics.idxOf name := by
  have hmem := mem_allMnemonics name
  constructor
  · intro hn
    obtain ⟨hlt, rfl⟩ := List.getElem?_eq_some_iff.mp hn
    exact (allMnemonics_nodup.idxOf_getElem n hlt).symm
  · rintro rfl
    exact List.getElem?_idxOf hmem

/-- The launch gives a mnemonic the code that the arrangement puts at the mnemonic's row, and no other. -/
theorem launchClass_eq_op_iff (name : Mnemonic) :
    ∃ c, ∀ c', launchClass c' = .op name ↔ c' = c := by
  have hrow : allMnemonics.idxOf name < 128 :=
    (List.idxOf_lt_length_of_mem (mem_allMnemonics name)).trans (by decide)
  refine ⟨Config.opcodePerm.symm ⟨allMnemonics.idxOf name, hrow⟩, fun c' => ?_⟩
  rw [Equiv.eq_symm_apply, Fin.ext_iff, ← allMnemonics_getElem?_eq_some_iff]
  unfold launchClass
  split
  · next other hother => simp [hother]
  · next hnone =>
    simp only [hnone, reduceCtorEq, iff_false]
    split <;> simp

/-- Settles O7. The arrangement is a permutation, whichever it is, so a mnemonic's row is the image of one code. -/
theorem launchMapGivesEachMnemonicOneCode : Obligations.LaunchMapGivesEachMnemonicOneCode := by
  refine List.all_eq_true.mpr fun name _ => gives_iff_count.mpr ?_
  obtain ⟨c, hc⟩ := launchClass_eq_op_iff name
  have hcode : ∀ c' : Fin 128, (launchClass c' == OpClass.op name) = (c' == c) := by
    intro c'
    rw [Bool.eq_iff_iff, beq_iff_eq, beq_iff_eq]
    exact hc c'
  calc launchOpcodeMap.toList.count (.op name)
      = ((List.finRange 128).map launchClass).count (.op name) := by
        rw [launchOpcodeMap, Vector.toList_ofFn, List.ofFn_eq_map]
        rfl
    _ = (List.finRange 128).countP (· == c) := by
        rw [List.count, List.countP_map]
        exact List.countP_congr fun c' _ => by simp [hcode]
    _ = 1 := List.count_eq_one_of_mem (List.nodup_finRange 128) (List.mem_finRange c)

/-! ### The bits of a word -/

/-- The mask of rule R83's padding has no bit in a field that stands clear of bits 20 and 19. -/
theorem extractLsb'_and_not_padding (w : Word) {low len : Nat}
    (hclear : ∀ k < len, (0x180000#40).getLsbD (low + k) = false) (htop : low + len ≤ 40) :
    (w &&& ~~~0x180000#40).extractLsb' low len = w.extractLsb' low len := by
  apply BitVec.eq_of_getLsbD_eq
  intro k hk
  have hbit : low + k < 40 := by omega
  rw [BitVec.getLsbD_extractLsb', BitVec.getLsbD_extractLsb', BitVec.getLsbD_and,
    BitVec.getLsbD_not, hclear k hk, decide_eq_true hbit, Bool.not_false, Bool.and_true,
    Bool.and_true]

/-- Decoding does not see the padding (rule R83). -/
theorem decodeWord_and_not_padding (w : Word) :
    decodeWord (w &&& ~~~0x180000#40) = decodeWord w := by
  unfold decodeWord
  rw [extractLsb'_and_not_padding w (low := 33) (len := 7) (by decide) (by decide),
    extractLsb'_and_not_padding w (low := 21) (len := 12) (by decide) (by decide),
    extractLsb'_and_not_padding w (low := 12) (len := 7) (by decide) (by decide),
    extractLsb'_and_not_padding w (low := 0) (len := 12) (by decide) (by decide)]

/-- Settles O4. Both words decode as the word that they have in common outside the padding. -/
theorem paddingBitsAreNotRead : Obligations.PaddingBitsAreNotRead := by
  intro w w' hagree
  rw [← decodeWord_and_not_padding w, hagree, decodeWord_and_not_padding]

/-- Settles O8. Each half written out is its op field before its address field, so its code's class decides. -/
theorem writtenWordsDecode : Obligations.WrittenWordsDecode := by
  intro map
  refine ⟨fun hra => ⟨?raHalf, ?raWord⟩, fun hhtl => ?htl, fun hunknown => ?unknown⟩
  case raHalf =>
    have hhalf : 0b0000101_000000000001#19 = halfOf 0b0000101#7 1#12 := by decide
    rw [hhalf, decodeHalf_halfOf, hra]
    rfl
  case raWord =>
    have hhalf : selectHalf 0b0000101_100000000001_11_1111111_111111111111#40 .left =
        halfOf 0b0000101#7 2049#12 := by decide
    rw [hhalf, decodeHalf_halfOf, hra]
    rfl
  case htl =>
    have hhalf : selectHalf 0b1111111_111111111111_01_0111111_000000001010#40 .right =
        halfOf 0b0111111#7 10#12 := by decide
    rw [hhalf, decodeHalf_halfOf, hhtl]
    rfl
  case unknown =>
    have hhalf : 0b0000000_000000001010#19 = halfOf 0b0000000#7 10#12 := by decide
    rw [hhalf, decodeHalf_halfOf, hunknown]
    rfl

end Sys2Proof.Machine
end

section
/-! The sequencer from construction on (spec/70_reset_and_hazards.md rules R390 to R392, spec/44_sequencer.md): the first
step of a launch, what a step of a faulted, halted or unreadable machine is, and where advances lead. -/

namespace Sys2Proof.Machine

/-- A written cell reads as the word it holds, whatever unwritten cells do (rule R55). -/
theorem memRead_of_written {s : State} {addr : Addr} {v : Word}
    (hv : storePeek s.mem addr.toNat = some v) : memRead s addr = some v := by
  simp only [memRead, hv]

/-- A fetch that faults ends the step with nothing changed but the record (rules R356, R357). -/
theorem runHalf_of_unreadable {s : State} (run : Instr → State → Outcome)
    (hnone : memRead s s.nir = none) :
    runHalf run s = .next (recordFault (.unwrittenRead s.nir) s) := by
  simp only [runHalf, hnone, raiseFault]

theorem step_of_fault {s : State} {r : FaultRecord} (hr : s.fault = some r) :
    step s = .fault (.ended r) := by
  simp only [step, hr]

theorem step_of_halted {s : State} (hf : s.fault = none) (hp : s.mtcPending = none)
    (hh : s.halted = true) : step s = .next (awaitGo s) := by
  simp only [step, hf, hp, hh, if_true]

/-- Settles O1. The construction state is written out field by field. -/
theorem constructionValues : Obligations.ConstructionValues :=
  ⟨rfl, rfl, rfl, rfl, rfl, rfl, rfl, rfl, rfl, rfl⟩

/-- Settles O2. A launch is a running machine at word 0, left half, so its step runs the half decoded there. -/
theorem firstStepRunsWordZeroLeft : Obligations.FirstStepRunsWordZeroLeft := by
  intro l w i hword hdecode
  exact stepRunsTheDecodedHalf (launch l) w i rfl rfl rfl (memRead_of_written hword) hdecode

/-- Settles O10. The parameter alone decides whether the read of an unwritten cell answers. -/
theorem fetchOfAnUnwrittenCell : Obligations.FetchOfAnUnwrittenCell := by
  intro s hf hp hh hunwritten
  refine ⟨fun hfaults => ?_, fun hreads => ?_⟩
  · rw [step_of_running hf hp hh,
      runHalf_of_unreadable exec (memRead_eq_none.mpr ⟨hfaults, hunwritten⟩)]
    rfl
  · simp [memRead, hunwritten, hreads]

/-- Settles O12. The record is the first thing that a step looks at. -/
theorem faultedStateIsTerminal : Obligations.FaultedStateIsTerminal := fun _ _ => step_of_fault

/-- Settles O14. HALTED becomes the negation of the host's input, and the read is counted. -/
theorem haltedMachineWaitsForGo : Obligations.HaltedMachineWaitsForGo := by
  intro s hf hp hh
  rw [step_of_halted hf hp hh]
  refine ⟨fun hno => ?_, fun hgo => ?_⟩
  · rw [awaitGo, hno, Bool.not_false, ← hh]
    rfl
  · rw [awaitGo, hgo]
    rfl

/-- Settles O15. An even number of advances ends at a left half and the next goes to the right half of the same word;
an odd number ends at a right half and the next goes to the word after. -/
theorem advancesRunThroughTheHalves : Obligations.AdvancesRunThroughTheHalves := by
  intro k s hleft
  rw [repeatStep_eq_iterate]
  induction k with
  | zero => simp [← hleft]
  | succ k ih =>
    rw [Function.iterate_succ_apply', ih]
    obtain heven | hodd := Nat.mod_two_eq_zero_or_one k
    · have hhalf : (k + 1) / 2 = k / 2 := by omega
      have hnext : (k + 1) % 2 = 1 := by omega
      rw [advance_from_left _ (if_pos heven), hhalf, hnext]
      rfl
    · have hhalf : (k + 1) / 2 = k / 2 + 1 := by omega
      have hnext : (k + 1) % 2 = 0 := by omega
      have hright : ¬ k % 2 = 0 := by omega
      rw [advance_from_right _ (if_neg hright), hhalf, hnext, add_ofNat_succ]
      rfl

end Sys2Proof.Machine
end

section
/-! The words that I/O and the drum move (spec/20_memory.md, spec/47_io_misc.md rules R300 to R305): memory as a store,
SEL, C, the drum control word, and whole blocks through RD and WD. -/

namespace Sys2Proof.Machine

/-! ### Memory -/

theorem memRead_memWrite_same (addr : Addr) (v : Word) (s : State) :
    memRead (memWrite addr v s) addr = some v :=
  memRead_of_written (storePeek_storePut_same _ v s.mem)

/-- Each 12-bit address has a key of its own (rule R50). -/
theorem storePeek_storePut_addr {addr b : Addr} (hb : b ≠ addr) (v : Word) (m : Store) :
    storePeek (storePut addr.toNat v m) b.toNat = storePeek m b.toNat :=
  storePeek_storePut_other (fun hkey => hb (BitVec.eq_of_toNat_eq hkey)) v m

theorem memRead_memWrite_other {addr b : Addr} (hb : b ≠ addr) (v : Word) (s : State) :
    memRead (memWrite addr v s) b = memRead s b := by
  unfold memRead
  rw [memWrite_mem, memWrite_params, storePeek_storePut_addr hb]

/-- Settles O29. Both readings of the store go through the parameter alike. -/
theorem memoryReadAfterWrite : Obligations.MemoryReadAfterWrite := fun addr v s =>
  ⟨memRead_memWrite_same addr v s, fun _ hb => memRead_memWrite_other hb v s⟩

/-! ### SEL and C -/

/-- The low octal digit of the address field is its value modulo 8 (rule R300). -/
theorem deviceSelector_eq_ofNat (addr : Addr) :
    deviceSelector addr = BitVec.ofNat 3 (addr.toNat % 8) := by
  apply BitVec.eq_of_toNat_eq
  have hmask : addr.toNat &&& (0o7#12).toNat = addr.toNat % 8 :=
    Nat.and_two_pow_sub_one_eq_mod addr.toNat 3
  rw [deviceSelector, BitVec.extractLsb'_toNat, BitVec.toNat_and, hmask, Nat.shiftRight_zero,
    BitVec.toNat_ofNat]

/-- Settles O52. SEL is a silent completion with DEVSEL written. -/
theorem selectStoresTheLowOctalDigit : Obligations.SelectStoresTheLowOctalDigit := by
  intro addr s
  rw [← deviceSelector_eq_ofNat]
  exact ⟨Config.nrDraw s.draws, rfl⟩

theorem cardHigh_eq_ofNat (card : Card) :
    cardHigh card = BitVec.ofNat 40 (card.toNat / 2 ^ 40) := by
  rw [cardHigh, BitVec.extractLsb', Nat.shiftRight_eq_div_pow]

theorem cardLow_eq_ofNat (card : Card) : cardLow card = BitVec.ofNat 40 (card.toNat % 2 ^ 40) := by
  apply BitVec.eq_of_toNat_eq
  rw [cardLow, BitVec.extractLsb'_toNat, BitVec.toNat_ofNat, Nat.mod_mod, Nat.shiftRight_zero]

/-- With the card feed selected and a card left, C takes the card and completes (rule R301). -/
theorem execC_of_card {addr : Addr} {s : State} {card : Card} {rest : List Card}
    (hdev : s.devsel = s.params.cardFeedDevice) (hdeck : s.deck = card :: rest) :
    execC addr s = completeSilent
      { memWrite addr (cardHigh card) { s with deck := rest } with a := cardLow card } := by
  simp only [execC, if_pos hdev, hdeck]

/-- Everything that C can do: fault on its device, fault on the empty deck, or take a card (rule R301). -/
theorem execC_cases (addr : Addr) (s : State) :
    (s.devsel ≠ s.params.cardFeedDevice ∧
      execC addr s = .next (recordFault (.unimplementedDevice s.devsel) s)) ∨
    (s.devsel = s.params.cardFeedDevice ∧ s.deck = [] ∧
      execC addr s = .next (recordFault .cardsExhausted s)) ∨
    (∃ card rest, execC addr s = completeSilent
      { memWrite addr (cardHigh card) { s with deck := rest } with a := cardLow card }) := by
  by_cases hdev : s.devsel = s.params.cardFeedDevice
  · cases hdeck : s.deck with
    | nil => exact .inr (.inl ⟨hdev, rfl, execC_of_emptyDeck hdev hdeck⟩)
    | cons card rest => exact .inr (.inr ⟨card, rest, execC_of_card hdev hdeck⟩)
  · exact .inl ⟨hdev, execC_of_otherDevice hdev⟩

/-- Settles O53. The two halves of the card are its quotient and remainder by 2^40. -/
theorem cardCopiesTheNextCard : Obligations.CardCopiesTheNextCard := by
  intro addr s card rest hdev hdeck
  refine ⟨Config.nrDraw s.draws, ?_⟩
  rw [exec_c, execC_of_card hdev hdeck, completeSilent_eq, cardHigh_eq_ofNat, cardLow_eq_ofNat]
  rfl

/-! ### The drum control word -/

/-- A field of the control bits, read through its mask of rule R303. -/
theorem toNat_controlField (cb : OpField) (shift : Nat) :
    (((cb >>> shift) &&& 0x7#7).extractLsb' 0 3).toNat = cb.toNat / 2 ^ shift % 8 := by
  have hmask : (cb.toNat >>> shift) &&& (0x7#7).toNat = (cb.toNat >>> shift) % 8 :=
    Nat.and_two_pow_sub_one_eq_mod _ 3
  rw [BitVec.extractLsb'_toNat, BitVec.toNat_and, BitVec.toNat_ushiftRight, Nat.shiftRight_zero,
    hmask, Nat.shiftRight_eq_div_pow, Nat.mod_mod]

/-- Settles O55. MQ's fields are quotients and remainders of its value, and so are the fields of its control bits. -/
theorem drumControlWordFields : Obligations.DrumControlWordFields := by
  intro mq first cb last
  have hfirst : (decodeWord mq).leftAddress.toNat = first := by
    rw [decodeWord, BitVec.extractLsb'_toNat, Nat.shiftRight_eq_div_pow]
  have hcb : (decodeWord mq).rightOp.toNat = cb := by
    rw [decodeWord, BitVec.extractLsb'_toNat, Nat.shiftRight_eq_div_pow]
  have hlast : (decodeWord mq).rightAddress.toNat = last := by
    rw [decodeWord, BitVec.extractLsb'_toNat, Nat.shiftRight_zero]
  refine ⟨hfirst, ?drum, ?position, ?band, ?count⟩
  case drum => rw [drumControl, drumUnitOf, toNat_controlField, hcb]; norm_num
  case position => rw [drumControl, drumUnitOf, toNat_controlField, hcb]; norm_num
  case band =>
    have hband := toNat_controlField (decodeWord mq).rightOp 0
    rw [hcb, pow_zero, Nat.div_one] at hband
    exact hband
  case count => simp only [drumControl, BitVec.le_def, hfirst, hlast]

/-! ### RD -/

/-- `mem` is the memory of `s` with the `n` words of unit `u` from `d` on written from `m` on, and nothing else (rule
R304). -/
def HoldsLoaded (s : State) (u : DrumUnit) (d m : Addr) (n : Nat) (mem : Store) : Prop :=
  (∀ j < n, storePeek mem (m + BitVec.ofNat 12 j).toNat =
    some (drumWord s u (d + BitVec.ofNat 12 j))) ∧
  ∀ c : Addr, (∀ j < n, c ≠ m + BitVec.ofNat 12 j) →
    storePeek mem c.toNat = storePeek s.mem c.toNat

section
variable {s : State} {u : DrumUnit} {d m : Addr} {n : Nat}

theorem holdsLoaded_zero : HoldsLoaded s u d m 0 s.mem :=
  ⟨fun _ hj => absurd hj (Nat.not_lt_zero _), fun _ _ => rfl⟩

/-- One more word loaded: it takes the next memory address, which is none of those before it. -/
theorem HoldsLoaded.put {mem : Store} (h : HoldsLoaded s u d m n mem) (hn : n < 4096) :
    HoldsLoaded s u d m (n + 1) (storePut (m + BitVec.ofNat 12 n).toNat
      (drumWord s u (d + BitVec.ofNat 12 n)) mem) := by
  obtain ⟨hloaded, hkept⟩ := h
  constructor
  · intro j hj
    obtain hlt | rfl := Nat.lt_succ_iff_lt_or_eq.mp hj
    · exact (storePeek_storePut_addr (add_ofNat_ne_of_lt m hlt hn) _ mem).trans (hloaded j hlt)
    · exact storePeek_storePut_same _ _ mem
  · intro c hother
    exact (storePeek_storePut_addr (hother n n.lt_succ_self) _ mem).trans
      (hkept c fun j hj => hother j (hj.trans n.lt_succ_self))

/-- One turn of RD's loop on an admitted unit. -/
theorem readBlock_succ (hu : drumAdmitted s u = true) (k : Nat) :
    readBlock u (k + 1) d m s =
      readBlock u k (d + 1) (m + 1) (memWrite m (drumWord s u d) s) := by
  simp only [readBlock, drumGet, if_pos hu]

/-- RD's loop stops at its first word for a unit that is not admitted. -/
theorem readBlock_of_notAdmitted (hu : drumAdmitted s u = false) (k : Nat) :
    readBlock u (k + 1) d m s = .raised (.drumBounds u) s := by
  simp [readBlock, drumGet, hu]

/-- The loop gets past the words that a block of an admitted unit begins with, with exactly those loaded. -/
theorem readBlock_past_admitted (hu : drumAdmitted s u = true) (hn : n ≤ 4096) :
    ∃ mem, HoldsLoaded s u d m n mem ∧ ∀ k,
      readBlock u (n + k) d m s =
        readBlock u k (d + BitVec.ofNat 12 n) (m + BitVec.ofNat 12 n) { s with mem := mem } := by
  induction n with
  | zero => exact ⟨s.mem, holdsLoaded_zero, fun k => by simp⟩
  | succ n ih =>
    obtain ⟨mem, hloaded, hloop⟩ := ih (by omega)
    refine ⟨_, hloaded.put hn, fun k => ?_⟩
    rw [Nat.add_assoc, Nat.add_comm 1 k, hloop,
      readBlock_succ (s := { s with mem := mem }) hu, ← add_ofNat_succ, ← add_ofNat_succ]
    rfl

/-- A block of no word, or of an admitted unit, is moved whole (decision D13). -/
theorem readBlock_moves (hok : n = 0 ∨ drumAdmitted s u = true) (hn : n ≤ 4096) :
    ∃ mem, HoldsLoaded s u d m n mem ∧ readBlock u n d m s = .moved { s with mem := mem } := by
  obtain rfl | hu := hok
  · exact ⟨s.mem, holdsLoaded_zero, rfl⟩
  · obtain ⟨mem, hloaded, hloop⟩ := readBlock_past_admitted (d := d) (m := m) hu hn
    exact ⟨mem, hloaded, hloop 0⟩

theorem writeBlock_moves (hok : n = 0 ∨ drumAdmitted s u = true) (hn : n ≤ 4096)
    (hread : ∀ j < n, memRead s (m + BitVec.ofNat 12 j) ≠ none) :
    ∃ drum, HoldsCopied s u d m n drum ∧ writeBlock u n d m s = .moved { s with drum := drum } := by
  obtain rfl | hu := hok
  · exact ⟨s.drum, holdsCopied_zero, rfl⟩
  · obtain ⟨drum, hcopied, hloop⟩ := writeBlock_past_readable (d := d) hu hn hread
    exact ⟨drum, hcopied, hloop 0⟩

end

theorem exec_rd (addr : Addr) (s : State) :
    exec (.rd addr) s =
      finishBlock (readBlock (drumControl s.mq).drumUnit (drumControl s.mq).count
        (drumControl s.mq).first addr s) := rfl

/-- Settles O56. A block that can be moved is moved whole; any other has a first word, at which the loop stops. -/
theorem drumReadMovesTheBlock : Obligations.DrumReadMovesTheBlock := by
  intro addr s b
  have hrd : exec (.rd addr) s = finishBlock (readBlock b.drumUnit b.count b.first addr s) :=
    exec_rd addr s
  constructor
  · intro hok
    obtain ⟨mem, ⟨hloaded, hkept⟩, hmoved⟩ :=
      readBlock_moves (d := b.first) (m := addr) hok (drumControl_count_le s.mq)
    refine ⟨Config.nrDraw s.draws, mem, ?_, hloaded, hkept⟩
    rw [hrd, hmoved, finishBlock_eq]
    rfl
  · intro hcount hu
    obtain ⟨k, hk⟩ := Nat.exists_eq_succ_of_ne_zero hcount
    rw [hrd, hk, readBlock_of_notAdmitted hu, finishBlock_eq]
    rfl

/-- Settles O57. With every word readable, WD's loop does not stop. -/
theorem drumWriteMovesTheBlock : Obligations.DrumWriteMovesTheBlock := by
  intro addr s b hok hread
  have hwd : exec (.wd addr) s = finishBlock (writeBlock b.drumUnit b.count b.first addr s) :=
    exec_wd addr s
  obtain ⟨drum, ⟨hcopied, hkept⟩, hmoved⟩ :=
    writeBlock_moves (d := b.first) hok (drumControl_count_le s.mq) hread
  refine ⟨Config.nrDraw s.draws, drum, ?_, hcopied, hkept⟩
  rw [hwd, hmoved, finishBlock_eq]
  rfl

end Sys2Proof.Machine
end

section
/-! The invariant (spec/20_memory.md section 1, spec/60_exceptions.md sections 1 to 3): construction and every launch meet it,
and every step keeps it. A fault record is true because each place that raises a fault has just tested its reason. -/

namespace Sys2Proof.Machine

/-! ### Claims about the next state of an outcome -/

/-- The claim holds of the outcome's next state, where it has one. -/
def EveryNext (P : State → Prop) : Outcome → Prop
  | .next t => P t
  | .fault _ | .refused _ => True

theorem EveryNext.of_eq {P : State → Prop} {o : Outcome} {t : State} (h : EveryNext P o)
    (ho : o = .next t) : P t := by
  subst ho
  exact h

/-- An instruction with an operand goes on with the word read, or faults because the read failed (rule R356). -/
theorem everyNext_withOperand {P : State → Prop} {addr : Addr} {s : State} {k : Word → Outcome}
    (hfault : memRead s addr = none → P (recordFault (.unwrittenRead addr) s))
    (hk : ∀ x, EveryNext P (k x)) : EveryNext P (withOperand addr s k) := by
  obtain ⟨x, -, heq⟩ | ⟨hnone, heq⟩ := withOperand_cases addr s k
  · exact heq ▸ hk x
  · exact heq ▸ hfault hnone

/-! ### The invariant as a conjunction -/

theorem inv_iff {s : State} :
    s.inv = true ↔ Memory.wf s.mem = true ∧ Drum.wf s.drum = true ∧ s.mtcPending = none ∧
      ∀ r, s.fault = some r → r.agrees s = true := by
  unfold State.inv
  cases s.fault <;> simp [and_assoc]

/-- A running machine that meets the invariant. It says nothing of the registers, so an instruction's work on them
keeps it. -/
def Running (s : State) : Prop :=
  Memory.wf s.mem = true ∧ Drum.wf s.drum = true ∧ s.mtcPending = none ∧ s.fault = none ∧
    s.halted = false

theorem Running.not_halted {s : State} (h : Running s) : s.halted = false := by
  obtain ⟨-, -, -, -, hh⟩ := h
  exact hh

theorem running_of_inv {s : State} (hinv : s.inv = true) (hf : s.fault = none)
    (hh : s.halted = false) : Running s := by
  obtain ⟨hmem, hdrum, hpending, -⟩ := inv_iff.mp hinv
  exact ⟨hmem, hdrum, hpending, hf, hh⟩

theorem inv_of_noFault {s : State} (hmem : Memory.wf s.mem = true) (hdrum : Drum.wf s.drum = true)
    (hpending : s.mtcPending = none) (hf : s.fault = none) : s.inv = true :=
  inv_iff.mpr ⟨hmem, hdrum, hpending, by simp [hf]⟩

/-! ### The reasons of the faults -/

section
variable {s : State} (hh : s.halted = false)
include hh

theorem agrees_unwrittenRead {addr : Addr} (hnone : memRead s addr = none) :
    (FaultRecord.mk (.unwrittenRead addr) s.nir s.cc).agrees s = true := by
  obtain ⟨hfaults, hunwritten⟩ := memRead_eq_none.mp hnone
  simp [FaultRecord.agrees, hh, hfaults, hunwritten]

theorem agrees_drumBounds {u : DrumUnit} (hu : drumAdmitted s u = false) :
    (FaultRecord.mk (.drumBounds u) s.nir s.cc).agrees s = true := by
  simp [FaultRecord.agrees, hh, hu]

theorem agrees_unimplementedDevice (hdev : s.devsel ≠ s.params.cardFeedDevice) :
    (FaultRecord.mk (.unimplementedDevice s.devsel) s.nir s.cc).agrees s = true := by
  simp [FaultRecord.agrees, hh, hdev]

theorem agrees_cardsExhausted (hdev : s.devsel = s.params.cardFeedDevice) (hdeck : s.deck = []) :
    (FaultRecord.mk .cardsExhausted s.nir s.cc).agrees s = true := by
  simp [FaultRecord.agrees, hh, hdev, hdeck]

/-- A half that decodes to no instruction has a code of the class it is rejected for (rules R318, R319). -/
theorem agrees_unimplementedOpcode {w : Word} {op : OpField} {name : String}
    (hd : decodeFetched w s = .unimplemented op name) :
    (FaultRecord.mk (.unimplementedOpcode op name) s.nir s.cc).agrees s = true := by
  unfold decodeFetched decodeHalf at hd
  split at hd <;> cases hd
  next hclass => simp [FaultRecord.agrees, hh, hclass]

theorem agrees_unknownOpcode {w : Word} {op : OpField} (hd : decodeFetched w s = .unknown op) :
    (FaultRecord.mk (.unknownOpcode op) s.nir s.cc).agrees s = true := by
  unfold decodeFetched decodeHalf at hd
  split at hd <;> cases hd
  next hclass => simp [FaultRecord.agrees, hh, hclass]

end

/-! ### The ends of an instruction -/

/-- The next state, where there is one, meets the invariant. -/
def LeavesInv : Outcome → Prop := EveryNext fun t => t.inv = true

section
variable {s : State} (h : Running s)
include h

theorem inv_recordFault_of_running {f : FaultKind}
    (hreason : (FaultRecord.mk f s.nir s.cc).agrees s = true) : (recordFault f s).inv = true := by
  obtain ⟨hmem, hdrum, hpending, -, -⟩ := h
  refine inv_iff.mpr ⟨hmem, hdrum, hpending, fun r hr => ?_⟩
  obtain rfl : FaultRecord.mk f s.nir s.cc = r := Option.some.inj hr
  exact hreason

theorem leavesInv_withOperand {addr : Addr} {k : Word → Outcome} (hk : ∀ x, LeavesInv (k x)) :
    LeavesInv (withOperand addr s k) := by
  refine everyNext_withOperand (fun hnone => ?_) hk
  exact inv_recordFault_of_running h (agrees_unwrittenRead h.not_halted hnone)

theorem leavesInv_complete : LeavesInv (complete s) := by
  obtain ⟨hmem, hdrum, hpending, hf, -⟩ := h
  exact inv_of_noFault (by simpa) (by simpa) (by simpa) (by simpa)

theorem leavesInv_completeSilent : LeavesInv (completeSilent s) :=
  leavesInv_complete (s := drawNr s) h

theorem leavesInv_transferIf (cond : Bool) (addr : Addr) (half : Half) :
    LeavesInv (transferIf cond addr half s) := by
  obtain ⟨hmem, hdrum, hpending, hf, -⟩ := id h
  cases cond with
  | true => exact inv_of_noFault hmem hdrum hpending hf
  | false => exact leavesInv_completeSilent h

theorem leavesInv_haltIf (cond : Bool) (addr : Addr) (half : Half) :
    LeavesInv (haltIf cond addr half s) := by
  obtain ⟨hmem, hdrum, hpending, hf, -⟩ := id h
  cases cond with
  | true => exact inv_of_noFault hmem hdrum hpending hf
  | false => exact leavesInv_completeSilent h

theorem running_memWrite (addr : Addr) (v : Word) : Running (memWrite addr v s) := by
  obtain ⟨hmem, hrest⟩ := h
  exact ⟨memWrite_wf hmem addr v, hrest⟩

theorem leavesInv_execC (addr : Addr) : LeavesInv (execC addr s) := by
  obtain ⟨hdev, heq⟩ | ⟨hdev, hdeck, heq⟩ | ⟨card, rest, heq⟩ := execC_cases addr s
  · rw [heq]
    exact inv_recordFault_of_running h (agrees_unimplementedDevice h.not_halted hdev)
  · rw [heq]
    exact inv_recordFault_of_running h (agrees_cardsExhausted h.not_halted hdev hdeck)
  · rw [heq]
    exact leavesInv_completeSilent (running_memWrite h addr (cardHigh card))

theorem leavesInv_readBlock (u : DrumUnit) (k : Nat) (d m : Addr) :
    LeavesInv (finishBlock (readBlock u k d m s)) := by
  obtain ⟨hmem, hrest⟩ := id h
  obtain ⟨mem, hmoved, hwf⟩ | ⟨hraised, hu⟩ := readBlock_cases u k d m s hmem
  · rw [hmoved]
    exact leavesInv_completeSilent ⟨hwf, hrest⟩
  · rw [hraised]
    exact inv_recordFault_of_running h (agrees_drumBounds h.not_halted hu)

theorem leavesInv_writeBlock (u : DrumUnit) (k : Nat) (d m : Addr) :
    LeavesInv (finishBlock (writeBlock u k d m s)) := by
  obtain ⟨hmem, hdrum, hrest⟩ := id h
  obtain ⟨drum, hwf, hends⟩ := writeBlock_cases u k d m s hdrum
  have hwritten : Running { s with drum := drum } := ⟨hmem, hwf, hrest⟩
  obtain hmoved | ⟨b, hraised, hnone⟩ | ⟨hraised, hu⟩ := hends
  · rw [hmoved]
    exact leavesInv_completeSilent hwritten
  · rw [hraised]
    exact inv_recordFault_of_running hwritten
      (agrees_unwrittenRead (s := { s with drum := drum }) h.not_halted hnone)
  · rw [hraised]
    exact inv_recordFault_of_running hwritten
      (agrees_drumBounds (s := { s with drum := drum }) h.not_halted hu)

/-! ### Every instruction -/

/-- Every instruction of a running machine leaves the invariant. -/
theorem leavesInv_exec (i : Instr) : LeavesInv (exec i s) := by
  cases i with
  | a | s | rsv | pi | ni | lm | ma | d =>
    exact leavesInv_withOperand h fun _ => leavesInv_complete h
  | ra | rs | m => exact leavesInv_withOperand (s := clearA s) h fun _ => leavesInv_complete h
  | ds => exact leavesInv_withOperand (s := clearMq s) h fun _ => leavesInv_complete h
  | sal addr | sor addr | sar addr | sab addr =>
    exact leavesInv_withOperand h fun _ => leavesInv_completeSilent (running_memWrite h addr _)
  | stq addr | snq addr | aqs addr | sqs addr | snv addr =>
    exact leavesInv_complete (running_memWrite h addr _)
  | lrc | lrh | llh | clc | clh | src | srh | sel | clear1 | clear2 | clear3 | clear4 =>
    exact leavesInv_complete h
  | tnl | tnr | tpl | tpr => exact leavesInv_transferIf h ..
  | trl addr => exact leavesInv_transferIf h true addr .left
  | trr addr => exact leavesInv_transferIf h true addr .right
  | t1l | t1r | t2l | t2r | t3l | t3r => exact leavesInv_transferIf (s := countDraw s) h ..
  | htl addr => exact leavesInv_haltIf h true addr .left
  | htr addr => exact leavesInv_haltIf h true addr .right
  | h1l | h1r | h2l | h2r | h3l | h3r => exact leavesInv_haltIf (s := countDraw s) h ..
  | c addr => exact leavesInv_execC h addr
  | rd addr => exact leavesInv_readBlock h ..
  | wd addr => exact leavesInv_writeBlock h ..
  | writeLineBuffer | readLineBuffer | writeScr | readScr | matchScr | mismatchScr => trivial

theorem leavesInv_runHalf : LeavesInv (runHalf exec s) := by
  obtain ⟨hnone, heq⟩ | ⟨w, i, -, -, heq⟩ | ⟨w, op, name, -, hd, heq⟩ | ⟨w, op, -, hd, heq⟩ :=
    runHalf_cases exec s
  · rw [heq]
    exact inv_recordFault_of_running h (agrees_unwrittenRead h.not_halted hnone)
  · rw [heq]
    exact leavesInv_exec (s := loadIr w s) h i
  · rw [heq]
    exact inv_recordFault_of_running (s := loadIr w s) h
      (agrees_unimplementedOpcode h.not_halted hd)
  · rw [heq]
    exact inv_recordFault_of_running (s := loadIr w s) h (agrees_unknownOpcode h.not_halted hd)

end

/-- Settles O26. A state with a next step has no fault record; a halted one gets none, and a running one runs a half. -/
theorem everyStepKeepsTheInvariant : Obligations.EveryStepKeepsTheInvariant := by
  intro s t hinv hstep
  obtain ⟨hf, -, ⟨-, rfl⟩ | ⟨hh, hrun⟩⟩ := step_next_cases hstep
  · obtain ⟨hmem, hdrum, hpending, -⟩ := inv_iff.mp hinv
    exact inv_of_noFault hmem hdrum hpending hf
  · exact (leavesInv_runHalf (running_of_inv hinv hf hh)).of_eq hrun

/-! ### Construction and launch -/

theorem loadImage_wf (image : List (Addr × Word)) : Memory.wf (loadImage image) = true :=
  List.foldlRecOn (motive := fun m => Memory.wf m = true) image _ rfl
    fun _ hm c _ => storePut_memory_wf hm c.1 c.2

theorem loadDrum_wf (image : List (DrumUnit × Addr × Word)) : Drum.wf (loadDrum image) = true :=
  List.foldlRecOn (motive := fun m => Drum.wf m = true) image _ rfl
    fun _ hm c _ => storePut_drum_wf hm c.1 c.2.1 c.2.2

/-- Settles O27. Nothing is listed, pending or recorded at construction. -/
theorem resetMeetsTheInvariant : Obligations.ResetMeetsTheInvariant :=
  inv_of_noFault reset_memory_wf reset_drum_wf rfl rfl

/-- Settles O28. An image is loaded cell by cell, each write keeping the canonical form. -/
theorem everyLaunchMeetsTheInvariant : Obligations.EveryLaunchMeetsTheInvariant := fun l =>
  inv_of_noFault (loadImage_wf l.image) (loadDrum_wf l.drumImage) rfl rfl

end Sys2Proof.Machine
end

section
/-! The shifts in closed form (spec/43_shift.md rules R171 to R182): each one-bit step is one step of arithmetic on the pair read
as one number, so n steps divide, multiply or rotate by n bits at once. -/

namespace Sys2Proof.Machine

/-! ### The shifts as n steps -/

/-- A shift leaves the pair that its steps make of A and MQ, and completes (rule R170). -/
theorem completeSilent_shiftBy {f : Pair → Pair} {addr : Addr} {u : State} {q : Pair}
    (hq : repeatStep f addr.toNat ⟨u.a, u.mq⟩ = q) :
    completeSilent (shiftBy f addr u) =
      .next (advance (withAnyNr (Config.nrDraw u.draws) { u with a := q.a, mq := q.mq })) := by
  subst hq
  rfl

/-! ### Logical right (rule R174) -/

theorem repeatStep_srsStep (n : Nat) (a mq : Word) :
    repeatStep srsStep n ⟨a, mq⟩ = ⟨a >>> n, mq⟩ := by
  have hstep : Function.Semiconj (fun v => Pair.mk v mq) (fun v : Word => v >>> 1) srsStep :=
    fun _ => rfl
  rw [← repeatStep_semiconj hstep, repeatStep_shiftRight_one]

theorem ushiftRight_eq_ofNat (v : Word) (n : Nat) :
    v >>> n = BitVec.ofNat 40 (v.toNat / 2 ^ n) := by
  rw [← Nat.shiftRight_eq_div_pow, ← BitVec.toNat_ushiftRight, BitVec.ofNat_toNat,
    BitVec.setWidth_eq]

/-- Settles O45. A alone is shifted, so MQ is what the steps began with. -/
theorem logicalRightShiftsOfA : Obligations.LogicalRightShiftsOfA := by
  intro addr s
  rw [← ushiftRight_eq_ofNat]
  exact ⟨⟨_, completeSilent_shiftBy (repeatStep_srsStep addr.toNat s.a s.mq)⟩,
    ⟨_, completeSilent_shiftBy (u := clearMq s) (repeatStep_srsStep addr.toNat s.a 0)⟩⟩

/-! ### Circular left (rule R173) -/

/-- Settles O43. The steps rotate the ring, whose halves the registers then are. -/
theorem circularShiftsInClosedForm : Obligations.CircularShiftsInClosedForm := by
  intro addr s p hp y
  have hring : ring (repeatStep clsStep addr.toNat ⟨s.a, p.2⟩) = y := by
    rw [ring_repeatStep_clsStep, ← BitVec.rotateLeft_mod_eq_rotateLeft]
    rfl
  have hsteps : repeatStep clsStep addr.toNat ⟨s.a, p.2⟩ =
      ⟨y.extractLsb' 40 40, y.extractLsb' 0 40⟩ := by
    rw [← hring]
    simp only [ring, BitVec.extractLsb'_append_eq_left, BitVec.extractLsb'_append_eq_right]
  clear_value y
  simp only [List.mem_cons, List.not_mem_nil, or_false] at hp
  obtain rfl | rfl := hp
  · exact ⟨_, completeSilent_shiftBy hsteps⟩
  · exact ⟨_, completeSilent_shiftBy (u := clearMq s) hsteps⟩

/-! ### Power right (rule R171) -/

/-- A:MQ[38:0] as one 79-bit number with A's sign. -/
def signedPair (p : Pair) : Int := sval p.a * 2 ^ 39 + ((p.mq.toNat % 2 ^ 39 : Nat) : Int)

/-- A bit written at bit 38 of a word below it. -/
theorem toNat_or_bit38 {v : Word} (hv : v.toNat < 2 ^ 38) (b : Bool) :
    (v ||| (bitWord b <<< 38)).toNat = v.toNat + b.toNat * 2 ^ 38 := by
  have hbit : (bitWord b <<< 38).toNat = 2 ^ 38 * b.toNat := by cases b <;> rfl
  rw [BitVec.toNat_or, hbit, Nat.or_comm, ← Nat.two_pow_add_eq_or_of_lt hv]
  omega

/-- The low 39 bits after a power-right step: halved, A's lowest bit entering at the top. -/
theorem low_prsStep (p : Pair) :
    (prsStep p).mq.toNat % 2 ^ 39 = p.mq.toNat % 2 ^ 39 / 2 + p.a.toNat % 2 * 2 ^ 38 := by
  have hhalf : (withSign p.mq false >>> 1).toNat = p.mq.toNat % 2 ^ 39 / 2 := by
    rw [toNat_shiftRight_one, toNat_withSign, Bool.toNat_false, Nat.zero_mul, Nat.add_zero]
  have hbound : (withSign p.mq false >>> 1).toNat < 2 ^ 38 := by omega
  rw [prsStep, toNat_withSign, toNat_or_bit38 hbound, hhalf, toNat_getLsbD_zero]
  omega

/-- A power-right step halves the number, rounding down. -/
theorem signedPair_prsStep : Function.Semiconj signedPair prsStep (· / 2) := by
  intro p
  have hlow := low_prsStep p
  have ha : sval (prsStep p).a = sval p.a / 2 := sval_shiftRightSigned p.a
  have hodd := sval_emod_two p.a
  simp only [signedPair, hlow, ha]
  omega

theorem repeatStep_half (n : Nat) (v : Int) : repeatStep (· / 2) n v = v / 2 ^ n := by
  induction n generalizing v with
  | zero => exact (Int.ediv_one v).symm
  | succ n ih =>
    rw [repeatStep, ih, Int.ediv_ediv_of_nonneg (by decide), pow_succ']

/-- The pair with A's sign copied into MQ, from its number (rule R176, decision D6). -/
theorem copySign_eq_of_signedPair {p : Pair} {y : Int} (hy : signedPair p = y) :
    copySign p = ⟨BitVec.ofInt 40 (y / 2 ^ 39),
      BitVec.ofInt 40 (y % 2 ^ 39 + if y < 0 then 2 ^ 39 else 0)⟩ := by
  have hhigh : y / 2 ^ 39 = sval p.a := by rw [← hy, signedPair]; omega
  have hlow : y % 2 ^ 39 = ((p.mq.toNat % 2 ^ 39 : Nat) : Int) := by rw [← hy, signedPair]; omega
  have hsign : (if y < 0 then (2 ^ 39 : Int) else 0) = (sign p.a).toNat * 2 ^ 39 := by
    by_cases hneg : y < 0
    · rw [if_pos hneg, sign_eq_true_iff.mpr (by omega)]
      rfl
    · rw [if_neg hneg, sign_eq_false_iff.mpr (by omega)]
      rfl
  have hmq : y % 2 ^ 39 + (if y < 0 then 2 ^ 39 else 0) =
      ((withSign p.mq (sign p.a)).toNat : Int) := by
    rw [hlow, hsign, toNat_withSign]
    rfl
  rw [hhigh, ofInt_sval, hmq, BitVec.ofInt_natCast, BitVec.ofNat_toNat, BitVec.setWidth_eq]
  rfl

/-- LRH and LRC leave the pair of the number divided by 2^n, MQ's sign written over (rules R175, R176). -/
theorem completeSilent_powerRight {addr : Addr} {u : State} {y : Int}
    (hy : signedPair ⟨u.a, u.mq⟩ / 2 ^ addr.toNat = y) :
    completeSilent (copySignOver (shiftBy prsStep addr u)) =
      .next (advance (withAnyNr (Config.nrDraw u.draws)
        { u with
          a := BitVec.ofInt 40 (y / 2 ^ 39)
          mq := BitVec.ofInt 40 (y % 2 ^ 39 + if y < 0 then 2 ^ 39 else 0) })) := by
  have hsteps : signedPair (repeatStep prsStep addr.toNat ⟨u.a, u.mq⟩) = y := by
    rw [repeatStep_semiconj signedPair_prsStep, repeatStep_half, hy]
  have hpair := copySign_eq_of_signedPair hsteps
  calc completeSilent (copySignOver (shiftBy prsStep addr u))
      = completeSilent
          (setPair (copySign (repeatStep prsStep addr.toNat ⟨u.a, u.mq⟩)) u) := rfl
    _ = _ := by rw [hpair]; rfl

/-- Settles O41. LRC starts from a cleared MQ, whose low bits are 0. -/
theorem powerRightShiftsInClosedForm : Obligations.PowerRightShiftsInClosedForm := by
  intro addr s p hp y
  simp only [List.mem_cons, List.not_mem_nil, or_false] at hp
  obtain rfl | rfl := hp
  · exact ⟨_, completeSilent_powerRight rfl⟩
  · exact ⟨_, completeSilent_powerRight (u := clearMq s) rfl⟩

/-! ### Power left (rule R172) -/

/-- A:MQ[38:0] as one unsigned 79-bit number. -/
def unsignedPair (p : Pair) : Nat := p.a.toNat * 2 ^ 39 + p.mq.toNat % 2 ^ 39

/-- A power-left step doubles the number, A's sign falling out. -/
theorem unsignedPair_plsStep :
    Function.Semiconj unsignedPair plsStep (fun v => 2 * v % 2 ^ 79) := by
  intro p
  have heven : (p.a <<< 1).toNat % 2 = 0 := by
    rw [toNat_shiftLeft_one]
    omega
  have ha : (plsStep p).a.toNat = 2 * p.a.toNat % 2 ^ 40 + p.mq.toNat / 2 ^ 38 % 2 := by
    rw [plsStep, toNat_or_bitWord heven, toNat_shiftLeft_one, toNat_getLsbD_38]
  have hlow : (plsStep p).mq.toNat % 2 ^ 39 = 2 * (p.mq.toNat % 2 ^ 39) % 2 ^ 39 := by
    rw [plsStep, toNat_withSign, toNat_shiftLeft_one]
    omega
  simp only [unsignedPair, ha, hlow]
  omega

theorem repeatStep_double (n v : Nat) :
    repeatStep (fun v => 2 * v % 2 ^ 79) n (v % 2 ^ 79) = v * 2 ^ n % 2 ^ 79 := by
  induction n generalizing v with
  | zero => rw [repeatStep, pow_zero, Nat.mul_one]
  | succ n ih =>
    rw [repeatStep, Nat.mul_mod_mod, ih, pow_succ']
    congr 1
    ring

theorem sign_repeatStep_plsStep_mq (n : Nat) (p : Pair) :
    sign (repeatStep plsStep n p).mq = sign p.mq := by
  induction n generalizing p with
  | zero => rfl
  | succ n ih => exact (ih _).trans (sign_plsStep_mq p)

theorem unsignedPair_lt (p : Pair) : unsignedPair p < 2 ^ 79 := by
  have ha := p.a.isLt
  rw [unsignedPair]
  omega

/-- The pair after n power-left steps, from its number and MQ's sign bit. -/
theorem repeatStep_plsStep {n y : Nat} {p : Pair} (hy : unsignedPair p * 2 ^ n % 2 ^ 79 = y) :
    repeatStep plsStep n p =
      ⟨BitVec.ofNat 40 (y / 2 ^ 39),
        BitVec.ofNat 40 (p.mq.toNat / 2 ^ 39 * 2 ^ 39 + y % 2 ^ 39)⟩ := by
  have hvalue : unsignedPair (repeatStep plsStep n p) = y := by
    rw [repeatStep_semiconj unsignedPair_plsStep, ← Nat.mod_eq_of_lt (unsignedPair_lt p),
      repeatStep_double, hy]
  have hsign := sign_repeatStep_plsStep_mq n p
  generalize repeatStep plsStep n p = q at hvalue hsign ⊢
  have hhigh : y / 2 ^ 39 = q.a.toNat := by rw [← hvalue, unsignedPair]; omega
  have hlow : y % 2 ^ 39 = q.mq.toNat % 2 ^ 39 := by rw [← hvalue, unsignedPair]; omega
  have hmq : p.mq.toNat / 2 ^ 39 * 2 ^ 39 + y % 2 ^ 39 = q.mq.toNat := by
    have hp := toNat_eq_low_add_sign p.mq
    have hq := toNat_eq_low_add_sign q.mq
    rw [hsign] at hq
    omega
  rw [hhigh, hmq, BitVec.ofNat_toNat, BitVec.ofNat_toNat, BitVec.setWidth_eq, BitVec.setWidth_eq]

/-- Settles O42. MQ is not cleared first, so the number is the pair's own. -/
theorem powerLeftShiftInClosedForm : Obligations.PowerLeftShiftInClosedForm := fun _ _ =>
  ⟨_, completeSilent_shiftBy (repeatStep_plsStep rfl)⟩

end Sys2Proof.Machine
end

section
/-! The frame of every instruction (spec/10_state.md sections 2 and 3, spec/20_memory.md section 2): one table of the parts of
the state that each mnemonic may write, and what it gives for the registers, OV, memory and the MTC channel. -/

namespace Sys2Proof.Machine

/-! ### The parts of the state -/

/-- A part of the state that some instruction writes, besides NR and what the sequencer has. -/
inductive StatePart where
  | a | mq | ov | devsel | mem | drum | deck
deriving DecidableEq

/-- `t` with the parts not listed taken from `s`, and IR, the host's fields, the OPEN parameters and the pending request
with them. NR, the draws and what the sequencer has stay those of `t`. -/
def restore (parts : List StatePart) (s t : State) : State :=
  { t with
    a := if .a ∈ parts then t.a else s.a
    mq := if .mq ∈ parts then t.mq else s.mq
    ov := if .ov ∈ parts then t.ov else s.ov
    devsel := if .devsel ∈ parts then t.devsel else s.devsel
    mem := if .mem ∈ parts then t.mem else s.mem
    drum := if .drum ∈ parts then t.drum else s.drum
    deck := if .deck ∈ parts then t.deck else s.deck
    ir := s.ir
    mtcPending := s.mtcPending
    inputs := s.inputs
    breakpoints := s.breakpoints
    trace := s.trace
    params := s.params }

/-- From `s` to `t` no part has changed but those listed: restoring the others changes nothing. -/
def ChangesOnly (parts : List StatePart) (s t : State) : Prop := t = restore parts s t

section
variable {parts : List StatePart} {s t : State} (h : ChangesOnly parts s t)
include h

theorem ChangesOnly.a (hp : .a ∉ parts) : t.a = s.a := (congrArg State.a h).trans (if_neg hp)

theorem ChangesOnly.mq (hp : .mq ∉ parts) : t.mq = s.mq := (congrArg State.mq h).trans (if_neg hp)

theorem ChangesOnly.ov (hp : .ov ∉ parts) : t.ov = s.ov := (congrArg State.ov h).trans (if_neg hp)

theorem ChangesOnly.devsel (hp : .devsel ∉ parts) : t.devsel = s.devsel :=
  (congrArg State.devsel h).trans (if_neg hp)

theorem ChangesOnly.mem (hp : .mem ∉ parts) : t.mem = s.mem :=
  (congrArg State.mem h).trans (if_neg hp)

theorem ChangesOnly.drum (hp : .drum ∉ parts) : t.drum = s.drum :=
  (congrArg State.drum h).trans (if_neg hp)

theorem ChangesOnly.deck (hp : .deck ∉ parts) : t.deck = s.deck :=
  (congrArg State.deck h).trans (if_neg hp)

theorem ChangesOnly.rest : t.ir = s.ir ∧ t.inputs = s.inputs ∧ t.breakpoints = s.breakpoints ∧
    t.trace = s.trace ∧ t.params = s.params ∧ t.mtcPending = s.mtcPending :=
  ⟨(congrArg State.ir h).trans rfl, (congrArg State.inputs h).trans rfl,
    (congrArg State.breakpoints h).trans rfl, (congrArg State.trace h).trans rfl,
    (congrArg State.params h).trans rfl, (congrArg State.mtcPending h).trans rfl⟩

/-- The advance writes NIR and CC alone, which are no listed part. -/
theorem ChangesOnly.advance : ChangesOnly parts s (advance t) := by
  cases hcc : t.cc with
  | left =>
    rw [advance_from_left t hcc]
    exact congrArg (fun u : State => { u with cc := .right }) h
  | right =>
    rw [advance_from_right t hcc]
    exact congrArg (fun u : State => { u with nir := t.nir + 1, cc := .left }) h

end

/-! ### The table -/

/-- The parts that an instruction may write (the table of spec/10_state.md section 2, rules R28, R57). -/
def writes : Mnemonic → List StatePart
  | .a | .s | .rs | .rsv => [.a, .ov]
  | .ra | .pi | .ni | .srh | .clear1 | .clear2 | .clear3 | .clear4 => [.a]
  | .lm => [.mq]
  | .m | .ma | .d | .ds | .lrc | .lrh | .llh | .clc | .clh | .src => [.a, .mq]
  | .sal | .sor | .sar | .sab | .rd => [.mem]
  | .stq | .snq | .aqs | .sqs | .snv => [.a, .ov, .mem]
  | .sel => [.devsel]
  | .c => [.a, .deck, .mem]
  | .wd => [.drum]
  | _ => []

/-- The table read the other way: the writers of each part. -/
theorem writers_of_part : ∀ name ∈ allMnemonics,
    (.a ∈ writes name → name ∈ accumulatorWriters) ∧
    (.mq ∈ writes name → name ∈ quotientWriters) ∧
    (.ov ∈ writes name → name ∈ overflowWriters) ∧
    (.devsel ∈ writes name → name = .sel) ∧
    (.deck ∈ writes name → name = .c) ∧
    (.drum ∈ writes name → name = .wd) ∧
    (.mem ∈ writes name → name ∈ wordStorers ∨ name = .rd) := by
  decide

/-- The next state, where there is one, differs from `s` in the parts listed alone. -/
def Leaves (parts : List StatePart) (s : State) : Outcome → Prop := EveryNext (ChangesOnly parts s)

section
variable {parts : List StatePart} {s u : State} (h : ChangesOnly parts s u)
include h

theorem leaves_withOperand {addr : Addr} {k : Word → Outcome} (hk : ∀ x, Leaves parts s (k x)) :
    Leaves parts s (withOperand addr u k) :=
  everyNext_withOperand
    (fun _ => congrArg (recordFault (.unwrittenRead addr)) h) hk

theorem leaves_transferIf (cond : Bool) (addr : Addr) (half : Half) :
    Leaves parts s (transferIf cond addr half u) := by
  cases cond with
  | true => exact congrArg (fun u => jumpTo addr half (drawNr u)) h
  | false => exact ChangesOnly.advance (congrArg drawNr h)

theorem leaves_haltIf (cond : Bool) (addr : Addr) (half : Half) :
    Leaves parts s (haltIf cond addr half u) := by
  cases cond with
  | true => exact congrArg (fun u => jumpTo addr half { drawNr u with halted := true }) h
  | false => exact ChangesOnly.advance (congrArg drawNr h)

end

theorem leaves_finishBlock {parts : List StatePart} {s : State} {e : BlockEnd}
    (h : ChangesOnly parts s e.state) : Leaves parts s (finishBlock e) := by
  cases e with
  | moved u => exact ChangesOnly.advance (congrArg drawNr h)
  | raised f u => exact congrArg (recordFault f) h

/-- RD's loop writes memory alone, wherever it ends. -/
theorem readBlock_state (unit : DrumUnit) (k : Nat) (d m : Addr) (s : State) :
    ∃ mem, (readBlock unit k d m s).state = { s with mem := mem } := by
  induction k generalizing d m s with
  | zero => exact ⟨s.mem, rfl⟩
  | succ k ih =>
    unfold readBlock
    split
    · exact ⟨s.mem, rfl⟩
    · obtain ⟨mem, hstate⟩ := ih (d + 1) (m + 1) (memWrite m _ s)
      exact ⟨mem, hstate⟩

/-- WD's loop writes the drum alone, wherever it ends. -/
theorem writeBlock_state (unit : DrumUnit) (k : Nat) (d m : Addr) (s : State) :
    ∃ drum, (writeBlock unit k d m s).state = { s with drum := drum } := by
  induction k generalizing d m s with
  | zero => exact ⟨s.drum, rfl⟩
  | succ k ih =>
    unfold writeBlock
    split
    · exact ⟨s.drum, rfl⟩
    · split
      · exact ⟨s.drum, rfl⟩
      · next hset =>
        obtain ⟨-, rfl⟩ := drumSet_eq_some hset
        obtain ⟨drum, hstate⟩ := ih (d + 1) (m + 1) { s with drum := storePut _ _ s.drum }
        exact ⟨drum, hstate⟩

theorem changesOnly_readBlock (unit : DrumUnit) (k : Nat) (d m : Addr) (s : State) :
    ChangesOnly [.mem] s (readBlock unit k d m s).state := by
  obtain ⟨mem, hstate⟩ := readBlock_state unit k d m s
  rw [hstate]
  rfl

theorem changesOnly_writeBlock (unit : DrumUnit) (k : Nat) (d m : Addr) (s : State) :
    ChangesOnly [.drum] s (writeBlock unit k d m s).state := by
  obtain ⟨drum, hstate⟩ := writeBlock_state unit k d m s
  rw [hstate]
  rfl

theorem leaves_execC (addr : Addr) (s : State) : Leaves (writes .c) s (execC addr s) := by
  obtain ⟨-, heq⟩ | ⟨-, -, heq⟩ | ⟨card, rest, heq⟩ := execC_cases addr s
  · exact heq ▸ rfl
  · exact heq ▸ rfl
  · rw [heq]
    exact ChangesOnly.advance rfl

/-- An instruction writes the parts that its row of the table lists, and no other. -/
theorem exec_leaves (i : Instr) (s : State) : Leaves (writes i.mnemonic) s (exec i s) := by
  cases i with
  | a | s | ra | rs | rsv | pi | ni | lm | m | ma | d | ds | sal | sor | sar | sab =>
    exact leaves_withOperand (by rfl) fun _ => ChangesOnly.advance (by rfl)
  | lrc | lrh | llh | clc | clh | src | stq | snq | aqs | sqs | snv | sel
  | clear1 | clear2 | clear3 | clear4 => exact ChangesOnly.advance (by rfl)
  -- SRH's steps keep MQ, which the closed form shows.
  | srh addr =>
    have hsteps := repeatStep_srsStep addr.toNat s.a s.mq
    have hshift : exec (.srh addr) s = _ := completeSilent_shiftBy hsteps
    rw [hshift]
    exact ChangesOnly.advance (by rfl)
  | tnl | tnr | tpl | tpr | t1l | t1r | t2l | t2r | t3l | t3r =>
    exact leaves_transferIf (by rfl) ..
  | h1l | h1r | h2l | h2r | h3l | h3r => exact leaves_haltIf (by rfl) ..
  -- The unconditional transfers and halts never advance.
  | trl | trr | htl | htr => exact rfl
  | c addr => exact leaves_execC addr s
  | rd => exact leaves_finishBlock (changesOnly_readBlock ..)
  | wd => exact leaves_finishBlock (changesOnly_writeBlock ..)
  | writeLineBuffer | readLineBuffer | writeScr | readScr | matchScr | mismatchScr => trivial

theorem changesOnly_of_exec {i : Instr} {s t : State} (hexec : exec i s = .next t) :
    ChangesOnly (writes i.mnemonic) s t :=
  (exec_leaves i s).of_eq hexec

/-! ### The registers -/

/-- Settles O21. Each clause is the table's writers of one part. -/
theorem onlyTheTablesWritersChangeARegister : Obligations.OnlyTheTablesWritersChangeARegister := by
  intro i s t hexec
  have hchanges := changesOnly_of_exec hexec
  obtain ⟨ha, hmq, -, hdevsel, hdeck, hdrum, -⟩ :=
    writers_of_part i.mnemonic (mem_allMnemonics _)
  exact ⟨fun h => hchanges.a (mt ha h), fun h => hchanges.mq (mt hmq h),
    fun h => hchanges.devsel (mt hdevsel h), fun h => hchanges.deck (mt hdeck h),
    fun h => hchanges.drum (mt hdrum h), hchanges.rest⟩

/-- Settles O19. OV is a part that the table gives to the adder's instructions alone. -/
theorem overflowIsWrittenOnlyByTheAdder : Obligations.OverflowIsWrittenOnlyByTheAdder := by
  intro i s t hnot hexec
  obtain ⟨-, -, hov, -, -, -, -⟩ := writers_of_part i.mnemonic (mem_allMnemonics _)
  exact (changesOnly_of_exec hexec).ov (mt hov hnot)

/-- OV stands set (rule R27). -/
def OvSet (s : State) : Prop := s.ov = true

theorem ovSet_advance {s : State} (h : OvSet s) : OvSet (advance s) := (advance_ov s).trans h

/-- The adder ORs its flag into OV (decision D4). -/
theorem ovSet_addCore {s : State} (h : OvSet s) (x : Word) (sub : Bool) :
    OvSet (addCore x sub s) := by
  rw [OvSet] at h
  rw [OvSet, addCore_ov, h, Bool.true_or]

theorem ovSet_storeA {s : State} (h : OvSet s) (addr : Addr) : EveryNext OvSet (storeA addr s) :=
  ovSet_advance h

/-- No instruction clears OV: those that write it add, and the others leave it. -/
theorem exec_ovSet {i : Instr} {s t : State} (h : OvSet s) (hexec : exec i s = .next t) :
    OvSet t := by
  by_cases hi : i.mnemonic ∈ overflowWriters
  · refine EveryNext.of_eq (P := OvSet) ?_ hexec
    cases i with
    | a | s =>
      exact everyNext_withOperand (fun _ => h) fun _ => ovSet_advance (ovSet_addCore h _ _)
    | rs | rsv =>
      exact everyNext_withOperand (fun _ => h) fun _ =>
        ovSet_advance (ovSet_addCore (s := clearA s) h _ _)
    | stq | snq | snv => exact ovSet_storeA (ovSet_addCore (s := clearA s) h _ _) _
    | aqs | sqs => exact ovSet_storeA (ovSet_addCore h _ _) _
    | _ => simp [Instr.mnemonic, overflowWriters] at hi
  · exact (overflowIsWrittenOnlyByTheAdder i s t hi hexec).trans h

/-- A running half dispatches an instruction, or faults at the fetch or at the dispatch with no more than IR written. -/
theorem runHalf_dispatches_or_faults (run : Instr → State → Outcome) (s : State) :
    (∃ w i, runHalf run s = run i (loadIr w s)) ∨
    (∃ u f, (u = s ∨ ∃ w, u = loadIr w s) ∧ runHalf run s = .next (recordFault f u)) := by
  obtain ⟨-, heq⟩ | ⟨w, i, -, -, heq⟩ | ⟨w, op, name, -, -, heq⟩ | ⟨w, op, -, -, heq⟩ :=
    runHalf_cases run s
  · exact .inr ⟨s, _, .inl rfl, heq⟩
  · exact .inl ⟨w, i, heq⟩
  · exact .inr ⟨loadIr w s, _, .inr ⟨w, rfl⟩, heq⟩
  · exact .inr ⟨loadIr w s, _, .inr ⟨w, rfl⟩, heq⟩

/-- Settles O20. A halted step, the fetch and a fault leave OV, and an instruction does not clear it. -/
theorem overflowIsSticky : Obligations.OverflowIsSticky := by
  intro s t hstep h
  obtain ⟨-, -, ⟨-, rfl⟩ | ⟨-, hrun⟩⟩ := step_next_cases hstep
  · exact h
  · obtain ⟨w, i, heq⟩ | ⟨u, f, hu, heq⟩ := runHalf_dispatches_or_faults exec s
    · exact exec_ovSet (s := loadIr w s) h (heq.symm.trans hrun)
    · obtain rfl := Host.Outcome.next.inj (heq.symm.trans hrun)
      obtain rfl | ⟨w, rfl⟩ := hu <;> exact h

/-! ### Memory -/

/-- Memory holds in `t` what it holds in `s`, but at `addr`. -/
def SameMemOff (addr : Addr) (s t : State) : Prop :=
  ∀ b : Addr, b ≠ addr → storePeek t.mem b.toNat = storePeek s.mem b.toNat

section
variable {addr : Addr} {s u : State}

theorem sameMemOff_complete (h : SameMemOff addr s u) :
    EveryNext (SameMemOff addr s) (complete u) := by
  intro b hb
  rw [advance_mem]
  exact h b hb

theorem sameMemOff_memWrite (hu : u.mem = s.mem) (v : Word) :
    SameMemOff addr s (memWrite addr v u) := by
  intro b hb
  rw [memWrite_mem, hu]
  exact storePeek_storePut_addr hb v s.mem

end

theorem sameMemOff_execC (addr : Addr) (s : State) :
    EveryNext (SameMemOff addr s) (execC addr s) := by
  obtain ⟨-, heq⟩ | ⟨-, -, heq⟩ | ⟨card, rest, heq⟩ := execC_cases addr s
  · exact heq ▸ fun _ _ => rfl
  · exact heq ▸ fun _ _ => rfl
  · rw [heq]
    exact sameMemOff_complete (u := drawNr _) (sameMemOff_memWrite rfl _)

/-- A store, or C, writes the word at its address field or faults (rule R57). -/
theorem exec_sameMemOff {i : Instr} (hi : i.mnemonic ∈ wordStorers) (s : State) :
    EveryNext (SameMemOff i.addr s) (exec i s) := by
  cases i with
  | sal addr | sor addr | sar addr | sab addr =>
    exact everyNext_withOperand (fun _ _ _ => rfl) fun _ =>
      sameMemOff_complete (u := drawNr _) (sameMemOff_memWrite rfl _)
  | stq | snq | aqs | sqs | snv => exact sameMemOff_complete (sameMemOff_memWrite rfl _)
  | c addr => exact sameMemOff_execC addr s
  | _ => simp [Instr.mnemonic, wordStorers] at hi

/-- RD writes the words of its block alone, or faults (rule R304). -/
theorem exec_rd_kept {addr b : Addr} {s t : State} (hexec : exec (.rd addr) s = .next t)
    (hb : ∀ j < (drumControl s.mq).count, b ≠ addr + BitVec.ofNat 12 j) :
    storePeek t.mem b.toNat = storePeek s.mem b.toNat := by
  obtain ⟨hmoves, hfaults⟩ := drumReadMovesTheBlock addr s
  by_cases hok : (drumControl s.mq).count = 0 ∨ drumAdmitted s (drumControl s.mq).drumUnit = true
  · obtain ⟨v, mem, heq, -, hkept⟩ := hmoves hok
    obtain rfl := Host.Outcome.next.inj (heq.symm.trans hexec)
    rw [advance_mem]
    exact hkept b hb
  · rw [not_or, Bool.not_eq_true] at hok
    obtain ⟨hcount, hu⟩ := hok
    obtain rfl := Host.Outcome.next.inj ((hfaults hcount hu).symm.trans hexec)
    rfl

/-- Settles O22. Memory is a part that the table gives to the stores, C and RD. -/
theorem memoryChangesOnlyWhereAStoreWrites : Obligations.MemoryChangesOnlyWhereAStoreWrites := by
  intro i s t hexec
  refine ⟨fun hstorer hrd => ?_, fun hstorer => (exec_sameMemOff hstorer s).of_eq hexec,
    fun hrd b hb => ?_⟩
  · obtain ⟨-, -, -, -, -, -, hmem⟩ := writers_of_part i.mnemonic (mem_allMnemonics _)
    exact (changesOnly_of_exec hexec).mem fun h => (hmem h).elim hstorer hrd
  · have hi : i = .rd i.addr := (instrOf_mnemonic_addr i).symm.trans (by rw [hrd]; rfl)
    rw [hi] at hexec
    exact exec_rd_kept hexec hb

end Sys2Proof.Machine
end

section
/-! Refusals and the ends of `go()` (spec/47_io_misc.md rule R310, spec/44_sequencer.md rule R206, spec/70_reset_and_hazards.md
rule R398): an instruction answers a next state or is a refused typewriter opcode, so a run ends as rule R398 says. -/

namespace Sys2Proof.Machine

/-! ### Refusals -/

theorem withOperand_answers {addr : Addr} {s : State} {k : Word → Outcome}
    (hk : ∀ x, ∃ t, k x = .next t) : ∃ t, withOperand addr s k = .next t := by
  obtain ⟨x, -, heq⟩ | ⟨-, heq⟩ := withOperand_cases addr s k
  · exact heq ▸ hk x
  · exact ⟨_, heq⟩

theorem execC_answers (addr : Addr) (s : State) : ∃ t, execC addr s = .next t := by
  obtain ⟨-, heq⟩ | ⟨-, -, heq⟩ | ⟨card, rest, heq⟩ := execC_cases addr s
  · exact ⟨_, heq⟩
  · exact ⟨_, heq⟩
  · exact ⟨_, heq⟩

/-- Settles O17. Every end that the instructions share is a next state; the typewriter opcodes have none of them. -/
theorem onlyTypewriterOpcodesAreRefused : Obligations.OnlyTypewriterOpcodesAreRefused := by
  intro i s
  cases i with
  | a | s | ra | rs | rsv | pi | ni | lm | m | ma | d | ds | sal | sor | sar | sab =>
    exact .inl (withOperand_answers fun _ => ⟨_, rfl⟩)
  | lrc | lrh | llh | clc | clh | src | srh | stq | snq | aqs | sqs | snv | sel
  | clear1 | clear2 | clear3 | clear4 | trl | trr | htl | htr => exact .inl ⟨_, rfl⟩
  | tnl | tnr | tpl | tpr | t1l | t1r | t2l | t2r | t3l | t3r => exact .inl ⟨_, transferIf_eq ..⟩
  | h1l | h1r | h2l | h2r | h3l | h3r => exact .inl ⟨_, haltIf_eq ..⟩
  | c addr => exact .inl (execC_answers addr s)
  | rd | wd => exact .inl ⟨_, finishBlock_eq _⟩
  | writeLineBuffer | readLineBuffer | writeScr | readScr | matchScr | mismatchScr =>
    exact .inr ⟨_, rfl, by simp [Instr.mnemonic]⟩

/-! ### The run loop -/

/-- A half never answers a fault outcome: a fault of its own is a next state (decision D16). -/
theorem runHalf_ne_fault (s : State) (r : Fault) : runHalf exec s ≠ .fault r := by
  obtain ⟨w, i, heq⟩ | ⟨u, f, -, heq⟩ := runHalf_dispatches_or_faults exec s
  · rw [heq]
    obtain ⟨t, hnext⟩ | ⟨op, hrefused, -⟩ := onlyTypewriterOpcodesAreRefused i (loadIr w s)
    · rw [hnext]
      simp
    · rw [hrefused]
      simp
  · rw [heq]
    simp

/-- No half sends a request (decision D17). -/
theorem runHalf_mtcPending {s t : State} (hrun : runHalf exec s = .next t) :
    t.mtcPending = s.mtcPending := by
  obtain ⟨w, i, heq⟩ | ⟨u, f, hu, heq⟩ := runHalf_dispatches_or_faults exec s
  · obtain ⟨-, -, -, -, -, hpending⟩ := (changesOnly_of_exec (heq.symm.trans hrun)).rest
    exact hpending
  · obtain rfl := Host.Outcome.next.inj (heq.symm.trans hrun)
    obtain rfl | ⟨w, rfl⟩ := hu <;> rfl

/-- What rule R398 says of the end of a run from `s`. -/
def EndsTruly (s : State) : GoEnd → Prop
  | .halted t => t.halted = true ∧ t.fault = none
  | .faulted r t => t.fault = some r
  | .waiting _ _ => s.mtcPending ≠ none
  | .refused _ | .running _ => True

/-- A run from a state with the same pending request ends as truly. -/
theorem endsTruly_congr {s t : State} (h : t.mtcPending = s.mtcPending) {e : GoEnd}
    (he : EndsTruly t e) : EndsTruly s e := by
  cases e with
  | waiting request u => exact fun hnone => he (h.trans hnone)
  | _ => exact he

section
variable {s t : State} (n : Nat)

theorem goLoop_of_fault {r : FaultRecord} (hf : s.fault = some r) :
    goLoop n s = .faulted r s := by
  unfold goLoop
  simp only [hf]

theorem goLoop_of_pending {request : MtcRequest} (hf : s.fault = none)
    (hp : s.mtcPending = some request) : goLoop n s = .waiting request s := by
  unfold goLoop
  simp only [hf, hp]

theorem goLoop_of_halted (hf : s.fault = none) (hp : s.mtcPending = none)
    (hh : s.halted = true) : goLoop n s = .halted s := by
  unfold goLoop
  simp only [hf, hp, hh, if_true]

theorem goLoop_zero_of_running (hf : s.fault = none) (hp : s.mtcPending = none)
    (hh : s.halted = false) : goLoop 0 s = .running s := by
  simp [goLoop, hf, hp, hh]

theorem goLoop_succ_of_next (hf : s.fault = none) (hp : s.mtcPending = none)
    (hh : s.halted = false) (hrun : runHalf exec s = .next t) :
    goLoop (n + 1) s = goLoop n t := by
  simp [goLoop, hf, hp, hh, hrun]

theorem goLoop_succ_of_refused {r : Refusal} (hf : s.fault = none) (hp : s.mtcPending = none)
    (hh : s.halted = false) (hrun : runHalf exec s = .refused r) :
    goLoop (n + 1) s = .refused r := by
  simp [goLoop, hf, hp, hh, hrun]

end

/-- A run ends truly where it stands, or the machine runs a half. -/
theorem goLoop_endsTruly_or_running (s : State) :
    (∀ n, EndsTruly s (goLoop n s)) ∨
      (s.fault = none ∧ s.mtcPending = none ∧ s.halted = false) := by
  rcases hf : s.fault with _ | r
  · rcases hp : s.mtcPending with _ | request
    · rcases hh : s.halted with _ | _
      · exact .inr ⟨rfl, rfl, rfl⟩
      · exact .inl fun n => goLoop_of_halted n hf hp hh ▸ ⟨hh, hf⟩
    · exact .inl fun n => goLoop_of_pending n hf hp ▸ hp.trans_ne (Option.some_ne_none request)
  · exact .inl fun n => goLoop_of_fault n hf ▸ hf

/-- Each turn of the loop ends truly, or runs a half, which raises no fault outcome and leaves the channel. -/
theorem goLoop_endsTruly (n : Nat) (s : State) : EndsTruly s (goLoop n s) := by
  induction n generalizing s with
  | zero =>
    obtain hends | ⟨hf, hp, hh⟩ := goLoop_endsTruly_or_running s
    · exact hends 0
    · rw [goLoop_zero_of_running hf hp hh]
      trivial
  | succ n ih =>
    obtain hends | ⟨hf, hp, hh⟩ := goLoop_endsTruly_or_running s
    · exact hends (n + 1)
    · cases hrun : runHalf exec s with
      | next t =>
        rw [goLoop_succ_of_next n hf hp hh hrun]
        exact endsTruly_congr (runHalf_mtcPending hrun) (ih t)
      | fault r => exact absurd hrun (runHalf_ne_fault s r)
      | refused r =>
        rw [goLoop_succ_of_refused n hf hp hh hrun]
        trivial

/-- Settles O18. The entry of `go()` writes HALTED alone. -/
theorem goEndsOnlyAtAHaltOrAFault : Obligations.GoEndsOnlyAtAHaltOrAFault := by
  intro n s
  have htruly : EndsTruly s (go n s) :=
    endsTruly_congr (t := { s with halted := false }) rfl (goLoop_endsTruly n _)
  refine ⟨fun t hend => ?_, fun r t hend => ?_, fun request t hnone hend => ?_⟩
  · rw [hend] at htruly
    exact htruly
  · rw [hend] at htruly
    exact htruly
  · rw [hend] at htruly
    exact htruly hnone

end Sys2Proof.Machine
end

section
/-! What no step reads (spec/10_state.md sections 2 and 3, spec/44_sequencer.md section 4): NR, OV, and the host's breakpoints and
trace toggle. Two machines that differ in these alone answer outcomes that differ in these alone. -/

namespace Sys2Proof.Machine

/-! ### Twin states -/

/-- A field, or pair of fields, that no step reads. -/
inductive Unread where
  | nr | ov | host

/-- The state with all that no step reads written. -/
def withUnread (v : Word) (b : Bool) (points : List Addr) (tr : Bool) (s : State) : State :=
  { s with nr := v, ov := b, breakpoints := points, trace := tr }

/-- All that no step reads. -/
def unread (s : State) : Word × Bool × List Addr × Bool := (s.nr, s.ov, s.breakpoints, s.trace)

/-- `t` is `s` but for the fields that no step reads, of which those in `shared` are the same too. -/
def Twin (shared : Set Unread) (s t : State) : Prop :=
  ∃ v b points tr, t = withUnread v b points tr s ∧ (.nr ∈ shared → v = s.nr) ∧
    (.ov ∈ shared → b = s.ov) ∧ (.host ∈ shared → points = s.breakpoints ∧ tr = s.trace)

/-- Outcomes of one kind, with twin states or the same reason. -/
def TwinOutcomes (shared : Set Unread) : Outcome → Outcome → Prop
  | .next s, .next t => Twin shared s t
  | .fault r, .fault r' => r = r'
  | .refused r, .refused r' => r = r'
  | _, _ => False

/-- Twin outcomes are equal once a function that makes twins equal is applied. -/
theorem mapNext_eq_of_twins {shared : Set Unread} {f : State → State} {o o' : Outcome}
    (h : TwinOutcomes shared o o') (hf : ∀ s t, Twin shared s t → f t = f s) :
    mapNext f o' = mapNext f o := by
  cases o with
  | next s =>
    cases o' with
    | next t => exact congrArg Host.Outcome.next (hf s t h)
    | _ => exact False.elim h
  | fault r =>
    cases o' with
    | fault r' => exact congrArg Host.Outcome.fault (Eq.symm h)
    | _ => exact False.elim h
  | refused r =>
    cases o' with
    | refused r' => exact congrArg Host.Outcome.refused (Eq.symm h)
    | _ => exact False.elim h

section
variable {shared : Set Unread} {s t : State} (h : Twin shared s t)
include h

theorem Twin.advance : Twin shared (advance s) (advance t) := by
  obtain ⟨v, b, points, tr, rfl, hv, hb, hp⟩ := h
  cases hcc : s.cc with
  | left =>
    rw [advance_from_left s hcc, advance_from_left (withUnread v b points tr s) hcc]
    exact ⟨v, b, points, tr, rfl, hv, hb, hp⟩
  | right =>
    rw [advance_from_right s hcc, advance_from_right (withUnread v b points tr s) hcc]
    exact ⟨v, b, points, tr, rfl, hv, hb, hp⟩

theorem Twin.drawNr : Twin shared (drawNr s) (drawNr t) := by
  obtain ⟨v, b, points, tr, rfl, hv, hb, hp⟩ := h
  exact ⟨_, b, points, tr, rfl, fun _ => rfl, hb, hp⟩

/-- Work that neither looks at the unread fields nor writes them takes twins to twins. -/
theorem Twin.map (f : State → State)
    (hblind : ∀ v b points tr,
      f (withUnread v b points tr s) = withUnread v b points tr (f s))
    (hkeeps : unread (f s) = unread s) : Twin shared (f s) (f t) := by
  obtain ⟨v, b, points, tr, rfl, hv, hb, hp⟩ := h
  simp only [unread, Prod.mk.injEq] at hkeeps
  obtain ⟨hnr, hov, hpoints, htr⟩ := hkeeps
  exact ⟨v, b, points, tr, hblind .., hnr ▸ hv, hov ▸ hb, hpoints ▸ htr ▸ hp⟩

theorem Twin.clearA : Twin shared (clearA s) (clearA t) := h.map _ (fun _ _ _ _ => rfl) rfl

theorem Twin.clearMq : Twin shared (clearMq s) (clearMq t) := h.map _ (fun _ _ _ _ => rfl) rfl

theorem Twin.countDraw : Twin shared (countDraw s) (countDraw t) :=
  h.map _ (fun _ _ _ _ => rfl) rfl

theorem Twin.loadIr (w : Word) : Twin shared (loadIr w s) (loadIr w t) :=
  h.map _ (fun _ _ _ _ => rfl) rfl

theorem Twin.awaitGo : Twin shared (awaitGo s) (awaitGo t) := h.map _ (fun _ _ _ _ => rfl) rfl

theorem Twin.recordFault (f : FaultKind) : Twin shared (recordFault f s) (recordFault f t) :=
  h.map _ (fun _ _ _ _ => rfl) rfl

theorem twins_withOperand {addr : Addr} {k k' : Word → Outcome}
    (hk : ∀ x, TwinOutcomes shared (k x) (k' x)) :
    TwinOutcomes shared (withOperand addr s k) (withOperand addr t k') := by
  have hread : memRead t addr = memRead s addr := by
    obtain ⟨v, b, points, tr, rfl, -⟩ := h
    rfl
  cases hs : memRead s addr with
  | some x =>
    rw [withOperand_some hs, withOperand_some (hread.trans hs)]
    exact hk x
  | none =>
    rw [withOperand_none hs, withOperand_none (hread.trans hs)]
    exact h.recordFault _

theorem twins_transferIf (cond : Bool) (addr : Addr) (half : Half) :
    TwinOutcomes shared (transferIf cond addr half s) (transferIf cond addr half t) := by
  cases cond with
  | true =>
    obtain ⟨v, b, points, tr, rfl, hv, hb, hp⟩ := h
    exact ⟨_, b, points, tr, rfl, fun _ => rfl, hb, hp⟩
  | false => exact h.drawNr.advance

theorem twins_haltIf (cond : Bool) (addr : Addr) (half : Half) :
    TwinOutcomes shared (haltIf cond addr half s) (haltIf cond addr half t) := by
  cases cond with
  | true =>
    obtain ⟨v, b, points, tr, rfl, hv, hb, hp⟩ := h
    exact ⟨_, b, points, tr, rfl, fun _ => rfl, hb, hp⟩
  | false => exact h.drawNr.advance

/-- C looks at DEVSEL and the deck alone before it writes (rule R301). -/
theorem twins_execC (addr : Addr) : TwinOutcomes shared (execC addr s) (execC addr t) := by
  obtain ⟨v, b, points, tr, rfl, hv, hb, hp⟩ := id h
  by_cases hdev : s.devsel = s.params.cardFeedDevice
  · cases hdeck : s.deck with
    | nil =>
      rw [execC_of_emptyDeck hdev hdeck,
        execC_of_emptyDeck (s := withUnread v b points tr s) hdev hdeck]
      exact h.recordFault _
    | cons card rest =>
      rw [execC_of_card hdev hdeck,
        execC_of_card (s := withUnread v b points tr s) hdev hdeck]
      exact Twin.advance ⟨_, b, points, tr, rfl, fun _ => rfl, hb, hp⟩
  · rw [execC_of_otherDevice hdev, execC_of_otherDevice (s := withUnread v b points tr s) hdev]
    exact h.recordFault _

end

/-! ### Block transfers -/

/-- The end of a block transfer with its state changed. -/
def BlockEnd.map (f : State → State) : BlockEnd → BlockEnd
  | .moved s => .moved (f s)
  | .raised k s => .raised k (f s)

section
variable (v : Word) (b : Bool) (points : List Addr) (tr : Bool) (unit : DrumUnit)

theorem readBlock_withUnread (k : Nat) (d m : Addr) (s : State) :
    readBlock unit k d m (withUnread v b points tr s) =
      (readBlock unit k d m s).map (withUnread v b points tr) := by
  induction k generalizing d m s with
  | zero => rfl
  | succ k ih =>
    cases hu : drumAdmitted s unit with
    | false =>
      rw [readBlock_of_notAdmitted hu,
        readBlock_of_notAdmitted (s := withUnread v b points tr s) hu]
      rfl
    | true =>
      rw [readBlock_succ hu, readBlock_succ (s := withUnread v b points tr s) hu, ← ih]
      rfl

theorem writeBlock_withUnread (k : Nat) (d m : Addr) (s : State) :
    writeBlock unit k d m (withUnread v b points tr s) =
      (writeBlock unit k d m s).map (withUnread v b points tr) := by
  induction k generalizing d m s with
  | zero => rfl
  | succ k ih =>
    cases hw : memRead s m with
    | none =>
      rw [writeBlock_of_unwritten hw, writeBlock_of_unwritten (s := withUnread v b points tr s) hw]
      rfl
    | some w =>
      cases hu : drumAdmitted s unit with
      | false =>
        rw [writeBlock_of_notAdmitted hu hw,
          writeBlock_of_notAdmitted (s := withUnread v b points tr s) hu hw]
        rfl
      | true =>
        rw [writeBlock_succ hu hw, writeBlock_succ (s := withUnread v b points tr s) hu hw, ← ih]
        rfl

end

/-- A block transfer that leaves the unread fields ends alike in twins. -/
theorem twins_finishBlock {shared : Set Unread} {v : Word} {b : Bool} {points : List Addr}
    {tr : Bool} {e : BlockEnd} (h : Twin shared e.state (withUnread v b points tr e.state)) :
    TwinOutcomes shared (finishBlock e) (finishBlock (e.map (withUnread v b points tr))) := by
  cases e with
  | moved u => exact h.drawNr.advance
  | raised f u => exact h.recordFault f

/-! ### Every instruction -/

theorem exec_twins {shared : Set Unread} {s t : State} (h : Twin shared s t) (i : Instr) :
    TwinOutcomes shared (exec i s) (exec i t) := by
  obtain ⟨v, b, points, tr, rfl, hv, hb, hp⟩ := id h
  -- The adder's OV is the old one or the flag, which neither OV nor NR enters.
  have hor (flag : Bool) : .ov ∈ shared → (b || flag) = (s.ov || flag) :=
    fun hov => congrArg (· || flag) (hb hov)
  cases i with
  | a | s | rsv =>
    exact twins_withOperand h fun _ =>
      Twin.advance ⟨_, _, points, tr, rfl, fun _ => rfl, hor _, hp⟩
  | rs =>
    exact twins_withOperand h.clearA fun _ =>
      Twin.advance ⟨_, _, points, tr, rfl, fun _ => rfl, hor _, hp⟩
  | pi | ni | lm | ma | d | sal | sor | sar | sab =>
    exact twins_withOperand h fun _ => Twin.advance ⟨_, b, points, tr, rfl, fun _ => rfl, hb, hp⟩
  | ra | m =>
    exact twins_withOperand h.clearA fun _ =>
      Twin.advance ⟨_, b, points, tr, rfl, fun _ => rfl, hb, hp⟩
  | ds =>
    exact twins_withOperand h.clearMq fun _ =>
      Twin.advance ⟨_, b, points, tr, rfl, fun _ => rfl, hb, hp⟩
  | lrc | lrh | llh | clc | clh | src | srh | sel =>
    exact Twin.advance ⟨_, b, points, tr, rfl, fun _ => rfl, hb, hp⟩
  | stq | snq | aqs | sqs | snv =>
    exact Twin.advance ⟨_, _, points, tr, rfl, fun _ => rfl, hor _, hp⟩
  | clear1 | clear2 | clear3 | clear4 => exact h.clearA.advance
  | tnl | tnr | tpl | tpr => exact twins_transferIf h ..
  | trl addr => exact twins_transferIf h true addr .left
  | trr addr => exact twins_transferIf h true addr .right
  | t1l | t1r | t2l | t2r | t3l | t3r =>
    exact twins_transferIf h.countDraw ..
  | htl addr => exact twins_haltIf h true addr .left
  | htr addr => exact twins_haltIf h true addr .right
  | h1l | h1r | h2l | h2r | h3l | h3r =>
    exact twins_haltIf h.countDraw ..
  | c addr => exact twins_execC h addr
  | rd addr =>
    obtain ⟨mem, hstate⟩ := readBlock_state (drumControl s.mq).drumUnit (drumControl s.mq).count
      (drumControl s.mq).first addr s
    have hrd : exec (.rd addr) (withUnread v b points tr s) = _ :=
      congrArg finishBlock (readBlock_withUnread ..)
    rw [hrd]
    exact twins_finishBlock (hstate ▸ ⟨v, b, points, tr, rfl, hv, hb, hp⟩)
  | wd addr =>
    obtain ⟨drum, hstate⟩ := writeBlock_state (drumControl s.mq).drumUnit (drumControl s.mq).count
      (drumControl s.mq).first addr s
    have hwd : exec (.wd addr) (withUnread v b points tr s) = _ :=
      congrArg finishBlock (writeBlock_withUnread ..)
    rw [hwd]
    exact twins_finishBlock (hstate ▸ ⟨v, b, points, tr, rfl, hv, hb, hp⟩)
  | writeLineBuffer | readLineBuffer | writeScr | readScr | matchScr | mismatchScr => exact rfl

/-! ### Every step -/

theorem runHalf_twins {shared : Set Unread} {s t : State} (h : Twin shared s t) :
    TwinOutcomes shared (runHalf exec s) (runHalf exec t) := by
  have hread : memRead t t.nir = memRead s s.nir := by
    obtain ⟨v, b, points, tr, rfl, -⟩ := h
    rfl
  have hdecode (w : Word) : decodeFetched w t = decodeFetched w s := by
    obtain ⟨v, b, points, tr, rfl, -⟩ := h
    rfl
  have hnir : t.nir = s.nir := by
    obtain ⟨v, b, points, tr, rfl, -⟩ := h
    rfl
  unfold runHalf
  rw [hread]
  cases memRead s s.nir with
  | none => exact hnir ▸ h.recordFault _
  | some w =>
    simp only [hdecode w]
    cases decodeFetched w s with
    | instr i => exact exec_twins (h.loadIr w) i
    | unimplemented op name => exact (h.loadIr w).recordFault _
    | unknown op => exact (h.loadIr w).recordFault _

theorem step_twins {shared : Set Unread} {s t : State} (h : Twin shared s t) :
    TwinOutcomes shared (step s) (step t) := by
  have hmode : t.fault = s.fault ∧ t.mtcPending = s.mtcPending ∧ t.halted = s.halted := by
    obtain ⟨v, b, points, tr, rfl, -⟩ := h
    exact ⟨rfl, rfl, rfl⟩
  obtain ⟨hf, hp, hh⟩ := hmode
  unfold step
  rw [hf, hp, hh]
  cases s.fault with
  | some r => exact rfl
  | none =>
    cases s.mtcPending with
    | some request => exact rfl
    | none =>
      cases s.halted with
      | true => exact h.awaitGo
      | false => exact runHalf_twins h

/-- Settles O24. Twins that share OV and the host's fields are equal once NR is overwritten. -/
theorem numberRegisterIsNeverReadBack : Obligations.NumberRegisterIsNeverReadBack := by
  intro v s
  have htwin : Twin {.ov, .host} s { s with nr := v } :=
    ⟨v, s.ov, s.breakpoints, s.trace, rfl, by simp, by simp, by simp⟩
  refine mapNext_eq_of_twins (step_twins htwin) ?_
  rintro u - ⟨x, b, points, tr, rfl, -, hb, hp⟩
  obtain ⟨rfl, rfl⟩ := hp (by simp)
  obtain rfl := hb (by simp)
  rfl

/-- Settles O25. Twins that share NR and the host's fields are equal once OV is overwritten. -/
theorem overflowToggleIsNeverRead : Obligations.OverflowToggleIsNeverRead := by
  intro b s
  have htwin : Twin {.nr, .host} s { s with ov := b } :=
    ⟨s.nr, b, s.breakpoints, s.trace, rfl, by simp, by simp, by simp⟩
  refine mapNext_eq_of_twins (step_twins htwin) ?_
  rintro u - ⟨x, c, points, tr, rfl, hx, -, hp⟩
  obtain ⟨rfl, rfl⟩ := hp (by simp)
  obtain rfl := hx (by simp)
  rfl

/-- No step writes the breakpoints or the trace toggle. -/
theorem step_keepsHost {s t : State} (hstep : step s = .next t) :
    t.breakpoints = s.breakpoints ∧ t.trace = s.trace := by
  obtain ⟨-, -, ⟨-, rfl⟩ | ⟨-, hrun⟩⟩ := step_next_cases hstep
  · exact ⟨rfl, rfl⟩
  · obtain ⟨w, i, heq⟩ | ⟨u, f, hu, heq⟩ := runHalf_dispatches_or_faults exec s
    · obtain ⟨-, -, hpoints, htr, -, -⟩ := (changesOnly_of_exec (heq.symm.trans hrun)).rest
      exact ⟨hpoints, htr⟩
    · obtain rfl := Host.Outcome.next.inj (heq.symm.trans hrun)
      obtain rfl | ⟨w, rfl⟩ := hu <;> exact ⟨rfl, rfl⟩

/-- Settles O23. Up to the host's fields the two steps agree, and the step on the left keeps those put in. -/
theorem breakpointsAndTraceHaveNoEffect : Obligations.BreakpointsAndTraceHaveNoEffect := by
  intro points tr s
  have htwin : Twin {.nr, .ov} s { s with breakpoints := points, trace := tr } :=
    ⟨s.nr, s.ov, points, tr, rfl, by simp, by simp, by simp⟩
  have hagree : mapNext (fun u => { u with breakpoints := points, trace := tr })
      (step { s with breakpoints := points, trace := tr }) =
      mapNext (fun u => { u with breakpoints := points, trace := tr }) (step s) := by
    refine mapNext_eq_of_twins (step_twins htwin) ?_
    rintro u - ⟨x, b, points', tr', rfl, hx, hb, -⟩
    obtain rfl := hx (by simp)
    obtain rfl := hb (by simp)
    rfl
  rw [← hagree]
  cases hstep : step { s with breakpoints := points, trace := tr } with
  | next t =>
    obtain ⟨hpoints, htr⟩ := step_keepsHost hstep
    rw [mapNext, ← show t.breakpoints = points from hpoints, ← show t.trace = tr from htr]
  | fault r => rfl
  | refused r => rfl

end Sys2Proof.Machine
end

section
/-! The multiply law (spec/42_muldiv.md rule R143): on its domain no addition of the rounds wraps, so the rounds consume the
multiplier bit by bit and A:MQ holds the product with the part consumed. -/

namespace Sys2Proof.Machine

/-- "All additions are `mod 2^40`" does nothing to a value of 40 signed bits. -/
theorem wrapSigned_of_mem {v : Int} (hlow : -2 ^ 39 ≤ v) (hhigh : v < 2 ^ 39) :
    wrapSigned v = v := by
  unfold wrapSigned
  exact Int.bmod_eq_of_le (by omega) (by omega)

/-! ### The rounds -/

/-- After `k` rounds of rule R140 on the multiplier `low + 2^k * high`: MQ holds `high` and, above it, the `k` low bits of
`x * low + a0`, and A holds the rest of that value. A stays within 38 bits and its sign. -/
structure MultipliedBy (x a0 m : Int) (k : Nat) (p : Int × Int) : Prop where
  consumed : ∃ low high product, m = low + 2 ^ k * high ∧ 0 ≤ low ∧ low < 2 ^ k ∧
    0 ≤ product ∧ product < 2 ^ k ∧ p.2 = high + 2 ^ (40 - k) * product ∧
    p.1 * 2 ^ k + product = x * low + a0
  bounded : -2 ^ 38 ≤ p.1 ∧ p.1 < 2 ^ 38

theorem multipliedBy_zero {x a0 m : Int} (ha : |a0| < 2 ^ 38) : MultipliedBy x a0 m 0 (a0, m) := by
  obtain ⟨hlow, hhigh⟩ := abs_lt.mp ha
  exact ⟨⟨0, m, 0, by simp⟩, hlow.le, hhigh⟩

/-- The conditional addition of a round, with MQ's lowest bit as a factor; within the bounds it does not wrap. -/
theorem multiplyRound_eq {x : Int} {p : Int × Int} (hx : |x| < 2 ^ 38) (hlow : -2 ^ 38 ≤ p.1)
    (hhigh : p.1 < 2 ^ 38) :
    multiplyRound x p =
      ((p.1 + p.2 % 2 * x) / 2, p.2 / 2 + (p.1 + p.2 % 2 * x) % 2 * 2 ^ 39) := by
  obtain ⟨hx1, hx2⟩ := abs_lt.mp hx
  obtain heven | hodd := Int.emod_two_eq_zero_or_one p.2
  · simp [multiplyRound, heven]
  · have hwrap : wrapSigned (p.1 + x) = p.1 + x := wrapSigned_of_mem (by omega) (by omega)
    simp [multiplyRound, hodd, hwrap]

/-- One round consumes the lowest bit left of the multiplier. -/
theorem MultipliedBy.round {x a0 m : Int} {k : Nat} {p : Int × Int} (hx : |x| < 2 ^ 38)
    (hk : k < 39) (h : MultipliedBy x a0 m k p) :
    MultipliedBy x a0 m (k + 1) (multiplyRound x p) := by
  obtain ⟨⟨low, high, product, hm, hlow, hlow', hproduct, hproduct', hmq, hvalue⟩, ha, ha'⟩ := h
  obtain ⟨hx1, hx2⟩ := abs_lt.mp hx
  have hplace : (2 : Int) ^ (40 - k) = 2 * 2 ^ (39 - k) := by
    rw [← pow_succ']
    congr 1
    omega
  have hpower : (2 : Int) ^ (39 - k) * 2 ^ k = 2 ^ 39 := by
    rw [← pow_add]
    congr 1
    omega
  have hbit : p.2 % 2 = high % 2 := by
    rw [hmq, hplace, mul_assoc, Int.add_mul_emod_self_left]
  have hhalf : p.2 / 2 = high / 2 + 2 ^ (39 - k) * product := by
    rw [hmq, hplace, mul_assoc, Int.add_mul_ediv_left _ _ two_ne_zero]
  rw [multiplyRound_eq hx ha ha', hbit, hhalf]
  have hsplit := Int.emod_add_mul_ediv high 2
  have hsum := Int.emod_add_mul_ediv (p.1 + high % 2 * x) 2
  have hb := Int.emod_two_eq_zero_or_one high
  have hr := Int.emod_two_eq_zero_or_one (p.1 + high % 2 * x)
  generalize high % 2 = b at *
  generalize high / 2 = rest at *
  generalize (p.1 + b * x) % 2 = r at *
  generalize (p.1 + b * x) / 2 = half at *
  have hpos : (0 : Int) < 2 ^ k := by positivity
  refine ⟨⟨low + 2 ^ k * b, rest, product + 2 ^ k * r, ?_, ?_, ?_, ?_, ?_, ?_, ?_⟩, ?_, ?_⟩
  · rw [hm, ← hsplit, pow_succ]
    ring
  · obtain rfl | rfl := hb <;> omega
  · rw [pow_succ]
    obtain rfl | rfl := hb <;> omega
  · obtain rfl | rfl := hr <;> omega
  · rw [pow_succ]
    obtain rfl | rfl := hr <;> omega
  · show _ = rest + 2 ^ (40 - (k + 1)) * _
    rw [show 40 - (k + 1) = 39 - k by omega, ← hpower]
    ring
  · show half * 2 ^ (k + 1) + _ = _
    rw [pow_succ]
    linear_combination hvalue + 2 ^ k * hsum
  · show -2 ^ 38 ≤ half
    obtain rfl | rfl := hb <;> omega
  · show half < 2 ^ 38
    obtain rfl | rfl := hb <;> omega

theorem multipliedBy_repeatStep {x a0 m : Int} (hx : |x| < 2 ^ 38) (ha : |a0| < 2 ^ 38) {k : Nat}
    (hk : k ≤ 39) : MultipliedBy x a0 m k (repeatStep (multiplyRound x) k (a0, m)) := by
  rw [repeatStep_eq_iterate]
  induction k with
  | zero => exact multipliedBy_zero ha
  | succ k ih =>
    rw [Function.iterate_succ_apply']
    exact (ih (by omega)).round hx hk

/-! ### The law -/

/-- Rule R143 over the integers: the multiplier's sign bit, left over after 39 rounds, counts for -2^39, which is the
corrective subtraction. -/
theorem multiplyExact_eq {x a0 : Int} (hx : |x| < 2 ^ 38) (ha : |a0| < 2 ^ 38) (mq : Word) :
    multiplyExact x (a0, mq.toNat) =
      ((x * sval mq + a0) / 2 ^ 39, (x * sval mq + a0) % 2 ^ 39) := by
  obtain ⟨⟨low, high, product, hm, hlow, hlow', hproduct, hproduct', hmq, hvalue⟩, hA, hA'⟩ :=
    multipliedBy_repeatStep (m := mq.toNat) hx ha (le_refl 39)
  obtain ⟨hx1, hx2⟩ := abs_lt.mp hx
  have hbound := mq.isLt
  have hsval : sval mq = low - 2 ^ 39 * high := by
    have hword := sval_eq_toNat_sub_sign mq
    have hsplit := toNat_eq_low_add_sign mq
    omega
  have hexact : x * sval mq + a0 =
      ((repeatStep (multiplyRound x) 39 (a0, (mq.toNat : Int))).1 - x * high) * 2 ^ 39 +
        product := by
    rw [hsval]
    linear_combination -hvalue
  unfold multiplyExact
  generalize repeatStep (multiplyRound x) 39 (a0, (mq.toNat : Int)) = q at *
  have hhigh : high = 0 ∨ high = 1 := by omega
  simp only [Prod.mk.injEq]
  obtain rfl | rfl := hhigh
  · have heven : ¬ q.2 % 2 = 1 := by omega
    rw [if_neg heven]
    omega
  · have hodd : q.2 % 2 = 1 := by omega
    rw [if_pos hodd, wrapSigned_of_mem (by omega) (by omega)]
    omega

/-- Settles O39. Both instructions leave what the integer rounds make of their operands, M with A taken as 0. -/
theorem multiplyLaw : Obligations.MultiplyLaw := by
  intro addr s x hx hdomain
  obtain ⟨hoperand, -⟩ := multiplyAndDivideOnEveryOperand addr s
  obtain ⟨hm, hma, -⟩ := hoperand x hx
  constructor
  · have hproduct := multiplyExact_eq hdomain (a0 := 0) (by decide) s.mq
    rw [hm, hproduct, add_zero]
    rfl
  · intro ha
    rw [hma, multiplyExact_eq hdomain ha]
    rfl

end Sys2Proof.Machine
end

section
/-! The divide law (spec/42_muldiv.md rule R148): on its domain each trial leaves a remainder on the divisor's side of 0 and
smaller than it, one more quotient bit, and one dividend bit less to take in. -/

namespace Sys2Proof.Machine

/-- The remainders that rule R148 allows: of the divisor's sign and smaller, and never 0 for a negative divisor. -/
def RemainderOf (x r : Int) : Prop := (0 < x → 0 ≤ r ∧ r < x) ∧ (x < 0 → x ≤ r ∧ r ≤ -1)

/-- A doubling of a remainder does not wrap; it takes in the top bit of the low part. -/
theorem doublePair_eq {r m : Int} (hlow : -2 ^ 38 ≤ r) (hhigh : r < 2 ^ 38) (hm : 0 ≤ m)
    (hm' : m < 2 ^ 39) : doublePair (r, m) = (2 * r + m / 2 ^ 38, 2 * (m % 2 ^ 38)) := by
  simp only [doublePair, Prod.mk.injEq]
  exact ⟨wrapSigned_of_mem (by omega) (by omega), by omega⟩

/-! ### The trials -/

/-- After `k` trials of rule R145 on twice the dividend `d`: A holds a remainder `r`, doubled, and the dividend bit taken in
last; the low part holds the dividend bits still to come and below them the `k` quotient bits. -/
def DividedBy (x d : Int) (k : Nat) (p : Int × Int) : Prop :=
  ∃ r q bit rest, p.1 = 2 * r + bit ∧ (bit = 0 ∨ bit = 1) ∧ RemainderOf x r ∧
    p.2 = 2 ^ k * rest + q ∧ 0 ≤ q ∧ q < 2 ^ k ∧ 0 ≤ rest ∧ rest < 2 ^ (39 - k) ∧
    2 * d = (x * q + r) * 2 ^ (40 - k) + bit * 2 ^ (39 - k) + rest

section
variable {x : Int} (hx : |x| < 2 ^ 38)
include hx

theorem RemainderOf.bounds {r : Int} (hx0 : x ≠ 0) (hr : RemainderOf x r) :
    -2 ^ 38 ≤ r ∧ r < 2 ^ 38 := by
  obtain ⟨hx1, hx2⟩ := abs_lt.mp hx
  obtain ⟨hpos, hneg⟩ := hr
  omega

/-- The prologue's doubling begins the trials. -/
theorem dividedBy_zero (hx0 : x ≠ 0) {a low : Int} (ha : RemainderOf x a) (hlow : 0 ≤ low)
    (hlow' : low < 2 ^ 39) : DividedBy x (a * 2 ^ 39 + low) 0 (doublePair (a, low)) := by
  obtain ⟨h1, h2⟩ := ha.bounds hx hx0
  rw [doublePair_eq h1 h2 hlow hlow']
  refine ⟨a, 0, low / 2 ^ 38, 2 * (low % 2 ^ 38), rfl, by omega, ha, ?_, le_rfl, one_pos, by omega,
    ?_, ?_⟩
  · rw [pow_zero, one_mul, add_zero]
  · rw [Nat.sub_zero]
    omega
  · rw [Nat.sub_zero, Nat.sub_zero]
    omega

/-- A trial subtracts the divisor where the difference is a remainder, else what stands is one; it notes which, and
doubles. -/
theorem divideRound_eq (hx0 : x ≠ 0) {r bit m : Int} (hr : RemainderOf x r)
    (hbit : bit = 0 ∨ bit = 1) :
    ∃ r' g, (g = 0 ∨ g = 1) ∧ 2 * r + bit = r' + g * x ∧ RemainderOf x r' ∧
      divideRound x (2 * r + bit, m) = ((doublePair (r', m)).1, (doublePair (r', m)).2 + g) := by
  obtain ⟨hx1, hx2⟩ := abs_lt.mp hx
  obtain ⟨hpos, hneg⟩ := hr
  have hwrap : wrapSigned (2 * r + bit - x) = 2 * r + bit - x :=
    wrapSigned_of_mem (by omega) (by omega)
  unfold divideRound
  rw [hwrap]
  by_cases hgo : 2 * r + bit - x < 0 ↔ x < 0
  · refine ⟨2 * r + bit - x, 1, .inr rfl, by ring, ?_, if_pos hgo⟩
    unfold RemainderOf
    omega
  · refine ⟨2 * r + bit, 0, .inl rfl, by ring, ?_, ?_⟩
    · unfold RemainderOf
      omega
    · simp only [if_neg hgo, add_zero]

/-- One trial takes in the next dividend bit and makes the next quotient bit. -/
theorem DividedBy.round {d : Int} {k : Nat} {p : Int × Int} (hx0 : x ≠ 0) (hk : k < 39)
    (h : DividedBy x d k p) : DividedBy x d (k + 1) (divideRound x p) := by
  obtain ⟨r, q, bit, rest, ha, hbit, hr, hm, hq, hq', hrest, hrest', hvalue⟩ := h
  obtain ⟨r', g, hg, htrial, hr', hround⟩ := divideRound_eq hx hx0 (m := p.2) hr hbit
  obtain ⟨h1, h2⟩ := hr'.bounds hx hx0
  have hplace : (2 : Int) ^ (39 - k) = 2 * 2 ^ (38 - k) := by
    rw [← pow_succ']
    congr 1
    omega
  have hplace' : (2 : Int) ^ (40 - k) = 4 * 2 ^ (38 - k) := by
    rw [show (4 : Int) = 2 ^ 2 by norm_num, ← pow_add]
    congr 1
    omega
  have hpower : (2 : Int) ^ (38 - k) * 2 ^ k = 2 ^ 38 := by
    rw [← pow_add]
    congr 1
    omega
  rw [hplace] at hrest'
  obtain ⟨bit', rest', hnext, hbit', hlow, hlow'⟩ : ∃ bit' rest',
      rest = 2 ^ (38 - k) * bit' + rest' ∧
      (bit' = 0 ∨ bit' = 1) ∧ 0 ≤ rest' ∧ rest' < 2 ^ (38 - k) := by
    by_cases htop : rest < 2 ^ (38 - k)
    · exact ⟨0, rest, by ring, .inl rfl, hrest, htop⟩
    · exact ⟨1, rest - 2 ^ (38 - k), by ring, .inr rfl, by omega, by omega⟩
  have hlast : 2 ^ k * rest' ≤ 2 ^ 38 - 2 ^ k := by
    rw [← hpower, ← sub_one_mul, mul_comm]
    exact mul_le_mul_of_nonneg_right (by omega) (by positivity)
  have hlast' : 0 ≤ 2 ^ k * rest' := by positivity
  have hsplit : p.2 = 2 ^ 38 * bit' + (2 ^ k * rest' + q) := by
    rw [hm, hnext, ← hpower]
    ring
  have hpair : divideRound x p = (2 * r' + bit', 2 * (2 ^ k * rest' + q) + g) := by
    have hdiv : p.2 / 2 ^ 38 = bit' := by omega
    have hmod : p.2 % 2 ^ 38 = 2 ^ k * rest' + q := by omega
    have hp2 : 0 ≤ p.2 ∧ p.2 < 2 ^ 39 := by omega
    rw [show p = (2 * r + bit, p.2) from Prod.ext ha rfl, hround, doublePair_eq h1 h2 hp2.1 hp2.2,
      hdiv, hmod]
  rw [hpair]
  refine ⟨r', 2 * q + g, bit', rest', rfl, hbit', hr', ?_, ?_, ?_, hlow, ?_, ?_⟩
  · show _ = 2 ^ (k + 1) * rest' + _
    rw [pow_succ]
    ring
  · omega
  · rw [pow_succ]
    omega
  · rwa [show 39 - (k + 1) = 38 - k by omega]
  · rw [show 40 - (k + 1) = 39 - k by omega, show 39 - (k + 1) = 38 - k by omega, hplace]
    rw [hplace, hplace'] at hvalue
    linear_combination hvalue + 2 * 2 ^ (38 - k) * htrial + hnext

theorem dividedBy_repeatStep (hx0 : x ≠ 0) {d : Int} {p : Int × Int} (hp : DividedBy x d 0 p)
    {k : Nat} (hk : k ≤ 39) : DividedBy x d k (repeatStep (divideRound x) k p) := by
  rw [repeatStep_eq_iterate]
  induction k with
  | zero => exact hp
  | succ k ih =>
    rw [Function.iterate_succ_apply']
    exact (ih (by omega)).round hx hx0 hk

/-- After the 39 trials no dividend bit is left, so A's last shift gives the remainder and the low part is the quotient. -/
theorem divide_trials (hx0 : x ≠ 0) {a low : Int} (ha : RemainderOf x a) (hlow : 0 ≤ low)
    (hlow' : low < 2 ^ 39) :
    ∃ r q, (repeatStep (divideRound x) 39 (doublePair (a, low))).1 / 2 = r ∧
      (repeatStep (divideRound x) 39 (doublePair (a, low))).2 = q ∧ 0 ≤ q ∧ q < 2 ^ 39 ∧
      RemainderOf x r ∧ q * x + r = a * 2 ^ 39 + low := by
  obtain ⟨r, q, bit, rest, hA, hbit, hr, hm, hq, hq', hrest, hrest', hvalue⟩ :=
    dividedBy_repeatStep hx hx0 (dividedBy_zero hx hx0 ha hlow hlow') (le_refl 39)
  rw [Nat.sub_self, pow_zero] at hrest'
  norm_num at hvalue
  have hzero : rest = 0 := by omega
  have hcomm := mul_comm x q
  exact ⟨r, q, by omega, by omega, hq, hq', hr, by omega⟩

/-! ### The law -/

omit hx in
/-- A dividend high part of the divisor's sign is a remainder. -/
theorem remainderOf_same {a : Int} (ha : |a| < |x|) (hsame : x < 0 ↔ a < 0) : RemainderOf x a := by
  obtain ⟨ha1, ha2⟩ := abs_lt.mp ha
  have habs := abs_cases x
  unfold RemainderOf
  omega

omit hx in
/-- One of the other sign is a remainder once the divisor is added. -/
theorem remainderOf_corrected {a : Int} (ha : |a| < |x|) (hdiffer : ¬(x < 0 ↔ a < 0)) :
    RemainderOf x (a + x) := by
  obtain ⟨ha1, ha2⟩ := abs_lt.mp ha
  have habs := abs_cases x
  unfold RemainderOf
  omega

/-- Rule R145 over the integers: where the signs differ the divisor is added first, and the quotient's sign bit takes it off
again. -/
theorem divideExact_spec {a m : Int} (ha : |a| < |x|) :
    ∃ r q, divideExact x (a, m) = (r, q) ∧ RemainderOf x r ∧
      wrapSigned q * x + r = a * 2 ^ 39 + m % 2 ^ 39 := by
  have hx0 : x ≠ 0 := abs_pos.mp ((abs_nonneg a).trans_lt ha)
  have hlow : 0 ≤ m % 2 ^ 39 := Int.emod_nonneg _ (by norm_num)
  have hlow' : m % 2 ^ 39 < 2 ^ 39 := Int.emod_lt_of_pos _ (by norm_num)
  unfold divideExact
  by_cases hsame : x < 0 ↔ a < 0
  · have hstart := remainderOf_same ha hsame
    obtain ⟨r, q, hr, hq, hq0, hq1, hrem, hvalue⟩ := divide_trials hx hx0 hstart hlow hlow'
    refine ⟨r, q, ?_, hrem, ?_⟩
    · simp only [if_pos hsame, hr, hq]
    · rwa [wrapSigned_of_mem (by omega) hq1]
  · have hstart := remainderOf_corrected ha hsame
    obtain ⟨h1, h2⟩ := hstart.bounds hx hx0
    have hwrap : wrapSigned (a + x) = a + x := wrapSigned_of_mem (by omega) (by omega)
    obtain ⟨r, q, hr, hq, hq0, hq1, hrem, hvalue⟩ := divide_trials hx hx0 hstart hlow hlow'
    refine ⟨r, q + 2 ^ 39, ?_, hrem, ?_⟩
    · simp only [if_neg hsame, hwrap, hr, hq]
    · have hnegative : wrapSigned (q + 2 ^ 39) = q - 2 ^ 39 := by
        have hshift : q + 2 ^ 39 = q - 2 ^ 39 + (2 ^ 40 : Nat) := by push_cast; ring
        rw [hshift, wrapSigned, Int.add_bmod_right]
        exact wrapSigned_of_mem (by omega) (by omega)
      rw [hnegative]
      linear_combination hvalue

end

theorem sval_ofInt (v : Int) : sval (BitVec.ofInt 40 v) = wrapSigned v := BitVec.toInt_ofInt v

/-- The registers of a quotient and a remainder (rule R148), for an instruction that divides A and `m`. -/
theorem divide_registers {i : Instr} {s : State} {x : Word} {m : Int}
    (hexec : exec i s = .next (advance (withProduct x (divideExact (sval x) (sval s.a, m)) s)))
    (hdomain : |sval x| < 2 ^ 38) (ha : |sval s.a| < |sval x|) :
    ∃ r q, exec i s = .next (advance { s with a := r, mq := q, nr := x }) ∧
      sval q * sval x + sval r = sval s.a * 2 ^ 39 + m % 2 ^ 39 ∧
      (0 < sval x → 0 ≤ sval r ∧ sval r < sval x) ∧
      (sval x < 0 → sval x ≤ sval r ∧ sval r ≤ -1) := by
  obtain ⟨r, q, hpair, hrem, hvalue⟩ := divideExact_spec hdomain (m := m) ha
  have hx0 : sval x ≠ 0 := abs_pos.mp ((abs_nonneg _).trans_lt ha)
  obtain ⟨hr1, hr2⟩ := hrem.bounds hdomain hx0
  have hr : sval (BitVec.ofInt 40 r) = r := by
    rw [sval_ofInt, wrapSigned_of_mem (by omega) (by omega)]
  refine ⟨BitVec.ofInt 40 r, BitVec.ofInt 40 q, ?_, ?_, ?_⟩
  · rw [hexec, hpair]
    rfl
  · rw [hr, sval_ofInt, hvalue]
  · rw [hr]
    exact hrem

/-- Settles O40. DS divides A and a low part of 0. -/
theorem divideLaw : Obligations.DivideLaw := by
  intro addr s x hx hdomain ha p hp
  obtain ⟨hoperand, -⟩ := multiplyAndDivideOnEveryOperand addr s
  obtain ⟨-, -, hd, hds, -⟩ := hoperand x hx
  simp only [List.mem_cons, List.not_mem_nil, or_false] at hp
  obtain rfl | rfl := hp
  · exact divide_registers hd hdomain ha
  · exact divide_registers hds hdomain ha

end Sys2Proof.Machine
end
